-- ==== Sys2Proof/Word.lean ====
section
/-! DEFINITION. The word types of CSS-SYNTH: bytes of MSGBUF, symbols, and 32-bit bus words (spec R7, R61). -/

namespace Sys2Proof

/-- One byte of the message (R42). -/
abbrev Byte := BitVec 8

/-- A 16-bit field: a symbol of SYMBUF, ARG, VALUE (R43, R80, R86). -/
abbrev Half := BitVec 16

/-- A 32-bit bus word, as every register of the port has it (R61). -/
abbrev Word := BitVec 32

end Sys2Proof
end

