-- ==== Sys2Proof/Syntax.lean ====
section
/-! DEFINITION. The commands of CSS1, one constructor for each row of the opcode table (spec R80, R81). -/

namespace Sys2Proof

/-- The direction of a segment (R82). -/
inductive Dir where
  | up
  | down
  deriving DecidableEq, Repr

/-- A command, with the fields its rule reads. Ignored bits (R84) are no part of a command. -/
inductive Instr where
  /-- OP 0x0 (R103). -/
  | nop
  /-- OP 0x1 (R160). -/
  | start
  /-- OP 0x2, DIR = 0 (R153). -/
  | synthUp (arg : Half)
  /-- OP 0x2, DIR = 1 (R153). -/
  | synthDn (arg : Half)
  /-- OP 0x3 (R126). -/
  | grayf (arg : Half)
  /-- OP 0x4 (R127). -/
  | grayi (arg : Half)
  /-- OP 0x5 (R121). -/
  | msgclr
  /-- OP 0x6 or 0x7, reserved (R104); `op` is the opcode. -/
  | reserved67 (op : BitVec 4)
  /-- OP 0x8 to 0xF, reserved (R104); `op` is the opcode. -/
  | reserved8F (op : BitVec 4)
  deriving DecidableEq, Repr

end Sys2Proof
end

