-- ==== Sys2Proof/WellFormed.lean ====
section
/-! DEFINITION. Which commands exist: the opcode of a reserved row is one of that row's opcodes (spec R81, R85).
Every other field takes every value of its width (R83). -/

namespace Sys2Proof

/-- The check. -/
def Instr.wf : Instr → Bool
  | .nop => true
  | .start => true
  | .synthUp _ => true
  | .synthDn _ => true
  | .grayf _ => true
  | .grayi _ => true
  | .msgclr => true
  | .reserved67 op => op == 6#4 || op == 7#4
  | .reserved8F op => decide (8 ≤ op.toNat)

end Sys2Proof
end

