-- ==== Sys2Proof/Decode.lean ====
section
/-! DEFINITION. The command word: its fields, the decoder and the encoder (spec R80 to R85, R91 to R93). -/

namespace Sys2Proof

/-- OP, bits 3:0 (R80). -/
def opField (w : Word) : BitVec 4 := w.extractLsb' 0 4

/-- DIR, bit 4 (R80, R82): true is DOWN. -/
def dirField (w : Word) : Bool := w.getLsbD 4

/-- ARG, bits 31:16 (R80, R83). -/
def argField (w : Word) : Half := w.extractLsb' 16 16

/-- Every 32-bit word is a command or a reserved opcode; OP alone selects which, and DIR tells the two rows of
SYNTH apart (R81, R82, R91). -/
def decodeWord (w : Word) : Instr :=
  match (opField w).toNat with
  | 0 => .nop
  | 1 => .start
  | 2 => if dirField w then .synthDn (argField w) else .synthUp (argField w)
  | 3 => .grayf (argField w)
  | 4 => .grayi (argField w)
  | 5 => .msgclr
  | 6 => .reserved67 (opField w)
  | 7 => .reserved67 (opField w)
  | _ => .reserved8F (opField w)

/-- Why bytes are no command: R92, every command is exactly 32 bits. -/
inductive DecodeError where
  /-- There are `n` bytes, not 4. Raised by `decode` only; safe. -/
  | wrongLength (n : Nat)
  deriving DecidableEq, Repr

/-- The bus word a platform's four bytes stand for, lowest address first (R62: little-endian). -/
def wordOfBytes (b0 b1 b2 b3 : Byte) : Word := b3 ++ b2 ++ b1 ++ b0

/-- The bytes of a number, `n` of them, least significant first (R62). -/
def bytesOf : Nat → Nat → List Byte
  | 0, _ => []
  | n + 1, v => BitVec.ofNat 8 v :: bytesOf n (v / 256)

/-- Bytes to a command: total, and refusing by name what is not 32 bits (R91, R92). -/
def decode : List Byte → Except DecodeError Instr
  | [b0, b1, b2, b3] => .ok (decodeWord (wordOfBytes b0 b1 b2 b3))
  | bs => .error (.wrongLength bs.length)

/-- The decoder on a word of the opcode table, laid out in bytes: `nbits` of its bits are given, the bits above
them up to a whole command are 0. -/
def decodeTableWord (nbits w : Nat) : Option Instr :=
  match decode (bytesOf (max 4 ((nbits + 7) / 8)) (w % 2 ^ nbits)) with
  | .ok i => some i
  | .error _ => none

/-- A command word from its fields, the ignored bits 0 (R80, R93). -/
def commandWord (op : BitVec 4) (dir : BitVec 1) (arg : Half) : Word :=
  arg ++ (0#11 : BitVec 11) ++ dir ++ op

/-- The word an assembler writes for a command (R93); for a reserved opcode, the word of that opcode. -/
def encode : Instr → Word
  | .nop => commandWord 0 0 0
  | .start => commandWord 1 0 0
  | .synthUp a => commandWord 2 0 a
  | .synthDn a => commandWord 2 1 a
  | .grayf a => commandWord 3 0 a
  | .grayi a => commandWord 4 0 a
  | .msgclr => commandWord 5 0 0
  | .reserved67 op => commandWord op 0 0
  | .reserved8F op => commandWord op 0 0

/-- "mask" of the command's row of the opcode table: the bits that select the row. -/
def rowMask : Instr → Word
  | .nop => 0x0000000F#32
  | .start => 0x0000000F#32
  | .synthUp _ => 0x0000001F#32
  | .synthDn _ => 0x0000001F#32
  | .grayf _ => 0x0000000F#32
  | .grayi _ => 0x0000000F#32
  | .msgclr => 0x0000000F#32
  | .reserved67 _ => 0x0000000E#32
  | .reserved8F _ => 0x00000008#32

/-- "match" of the command's row of the opcode table: what those bits are. -/
def rowMatch : Instr → Word
  | .nop => 0x00000000#32
  | .start => 0x00000001#32
  | .synthUp _ => 0x00000002#32
  | .synthDn _ => 0x00000012#32
  | .grayf _ => 0x00000003#32
  | .grayi _ => 0x00000004#32
  | .msgclr => 0x00000005#32
  | .reserved67 _ => 0x00000006#32
  | .reserved8F _ => 0x00000008#32

end Sys2Proof
end

