-- ==== Sys2Proof/Config.lean ====
section
/-! DEFINITION. What an implementation fixes (spec R6): the parameters with their ranges and defaults, the
derived widths, and the two amplitude functions, which the spec leaves OPEN and which therefore have no body. -/

namespace Sys2Proof.Config

/-- The parameters of R6 that a rule of the block reads. They are not state (R20): `State.par` only carries
them, and no step changes it (log 3, DESIGN CHOICE). -/
structure Params where
  /-- SF_MAX, the largest legal spreading factor. -/
  sfMax : Nat
  /-- PMAX, the number of slots of the mask file. -/
  pmax : Nat
  /-- MSG_MAX, the capacity of the message buffer in bytes. -/
  msgMax : Nat
  /-- OUT_W, the width of the I and Q words. -/
  outW : Nat
  /-- OUT_DEPTH, the capacity of the output queue; OPEN. -/
  outDepth : Nat
  /-- ID_VALUE, what the ID register reads. -/
  idValue : Word
  deriving DecidableEq, Repr

/-- The ranges R6 gives (column "constraint"). -/
abbrev Params.admissible (p : Params) : Prop :=
  1 ≤ p.sfMax ∧ p.sfMax ≤ 15 ∧ 8 ≤ p.pmax ∧ p.pmax ≤ 64 ∧ 1 ≤ p.msgMax ∧ p.msgMax ≤ 8191 ∧
  2 ≤ p.outW ∧ p.outW ≤ 32 ∧ 1 ≤ p.outDepth

/-- The defaults of R6. OUT_DEPTH has none: 1 is the model's own value at reset, the least that R6 admits
(log 4, DESIGN CHOICE, unsafe to rest a claim on). -/
def defaultParams : Params :=
  { sfMax := 12, pmax := 32, msgMax := 256, outW := 16, outDepth := 1, idValue := 0x43535331#32 }

/-- SYM_MAX = 8 * MSG_MAX (R6). -/
def Params.symMax (p : Params) : Nat := 8 * p.msgMax

/-- SW = NW = 32 + SF_MAX: the width of S, of K and of N (R6). -/
def Params.nw (p : Params) : Nat := 32 + p.sfMax

/-- PHW = 64 + SF_MAX: the width of the phase word (R6). -/
def Params.phw (p : Params) : Nat := 64 + p.sfMax

/-- A = 2^(OUT_W-1) - 1, the amplitude that stands for 1 (R146). -/
def fullScale (outW : Nat) : Nat := 2 ^ (outW - 1) - 1

/-- FREE (log 5): the code of AMP_I(p, D) counted up from -A. OPEN in R6; no body, so a claim about I holds for
every function of (p, D) whose range is that of R146 property 2. -/
opaque ampICode : (outW p d : Nat) → Fin (2 * fullScale outW + 1)

/-- FREE (log 5): the code of AMP_Q(p, D) counted up from -A. -/
opaque ampQCode : (outW p d : Nat) → Fin (2 * fullScale outW + 1)

/-- FREE (log 22): the symbol that the n-th writing of a symbol field without a stated value leaves there. -/
opaque freeSymbol : (n : Nat) → BitVec 16

/-- FREE (log 22): the same for a direction; true is DOWN. -/
opaque freeDown : (n : Nat) → Bool

/-- FREE (log 22): the same for S, before it is brought into [0, M). -/
opaque freeShift : (n : Nat) → Nat

/-- FREE (log 22): the same for PHI, before it is brought into [0, D). -/
opaque freePhase : (n : Nat) → Nat

/-- FREE (log 22): the same for K, before it is brought into [0, N). -/
opaque freeIndex : (n : Nat) → Nat

/-- AMP_I(p, D), an integer in [-A, A] (R146 properties 1 and 2). -/
def ampI (outW p d : Nat) : Int := (ampICode outW p d).val - fullScale outW

/-- AMP_Q(p, D), an integer in [-A, A] (R146 properties 1 and 2). -/
def ampQ (outW p d : Nat) : Int := (ampQCode outW p d).val - fullScale outW

end Sys2Proof.Config
end

