-- ==== Sys2Proof/Machine/State.lean ====
section
/-! DEFINITION. The state of CSS-SYNTH and of the agents around it (spec R12, R20 to R46), and the machine
right after reset (R45). -/

namespace Sys2Proof.Machine

open Sys2Proof

/-- ENG (R36). STATUS.BUSY is (ENG = RUN) and is stored here only. -/
inductive Eng where
  | idle
  | run
  deriving DecidableEq, Repr

/-- OPK (R36): a packet (START) or one segment (SYNTH). -/
inductive OpKind where
  | pkt
  | one
  deriving DecidableEq, Repr

/-- A sample record (R40). PHASE is the exact phase word; I and Q are the integers their OUT_W-bit words stand
for (R146). -/
structure Sample where
  phase : Nat
  i : Int
  q : Int
  first : Bool
  last : Bool
  deriving DecidableEq, Repr

/-- Cells of `w` bits by address, in one canonical form: addresses rising, no cell that holds what an unlisted
address reads as. `Memory 8` is a list of `Host.Cell`. -/
abbrev Memory (w : Nat) := List (Nat × BitVec w)

/-- One step of a host program (R94): a bus read, a bus write, or a POLL line, which reads until the masked value is
the one asked for. Addresses are byte offsets in the window (R11); a size other than 4 is ill-formed (R61). -/
inductive HostOp where
  | read (addr : Word) (size : Nat)
  | write (addr : Word) (size : Nat) (v : Word)
  | poll (addr : Word) (mask value : Word)
  deriving DecidableEq, Repr

/-- The agents of R12. -/
inductive Agent where
  | host
  | engine
  | sink
  | reset
  deriving DecidableEq, Repr

/-- Why a run stops with a fault. The block itself has none (R61, R175, R180): both stand only in states that no
run reaches. -/
inductive Fault where
  /-- The engine loads a segment j for which R162 and R163 give no Slot(j): a reserved KIND, or j outside the
  operation. Raised by `loadSeg`; safe (log 9). -/
  | slotUndefined
  /-- The engine reduces modulo M = D = 0, which R8 gives no meaning (FS = 0 during a run). Raised by `emit`;
  safe (log 10). -/
  | zeroModulus
  deriving DecidableEq, Repr

/-- Why a step is refused. -/
inductive Refusal where
  /-- An instruction with no meaning yet. Raised by `exec` only; no arm of this model raises it. Safe. -/
  | notModelled (mnemonic : String)
  /-- A bus operation whose size is not 4: R61, "A model refuses a bus operation whose size is not 4". Raised by
  `hostStep`; safe (log 12). -/
  | busSize (size : Nat)
  deriving DecidableEq, Repr

/-- The whole machine. Registers are as wide as their fields; the accumulators whose width depends on SF_MAX are
natural numbers that the rules keep within it (R8, log 16). -/
structure State where
  /-- The parameters (R6), carried and never changed (log 3). -/
  par : Config.Params
  /-- STATUS.DONE, bit 1 (R24). -/
  done : Bool
  /-- STATUS.ERR, bit 2 (R24). -/
  err : Bool
  /-- STATUS.CMDREJ, bit 3 (R24). -/
  cmdrej : Bool
  /-- STATUS.WIGN, bit 4 (R24). -/
  wign : Bool
  /-- STATUS.MSGOVF, bit 5 (R24). -/
  msgovf : Bool
  /-- IRQEN (R25). -/
  irqen : Word
  /-- FS (R26). -/
  fs : Word
  /-- BW (R27). -/
  bw : Word
  /-- F0 (R28). -/
  f0 : Word
  /-- MODE (R29). -/
  mode : Word
  /-- PLEN (R30). -/
  plen : BitVec 8
  /-- PMASK[0..PMAX-1] (R41). -/
  pmask : List Word
  /-- NSAMP, the latched N of NW bits (R31). -/
  nsamp : Nat
  /-- MSGLEN (R32). -/
  msglen : Half
  /-- MSGBUF (R42). -/
  msgbuf : Memory 8
  /-- NSYM (R33). -/
  nsym : Half
  /-- SYMBUF (R43). -/
  symbuf : Memory 16
  /-- RESULT (R34). -/
  result : Half
  /-- ERRCODE (R35). -/
  errcode : BitVec 8
  /-- ERRIDX (R35). -/
  erridx : BitVec 17
  /-- ERRVAL (R35). -/
  errval : Word
  /-- SYMIDX (R39). -/
  symidx : Half
  /-- ENG (R36). -/
  eng : Eng
  /-- OPK (R36). -/
  opk : OpKind
  /-- NSEG, read as SEGCNT (R36, R38). -/
  nseg : BitVec 17
  /-- SEG, read as POSSEG (R36, R38). -/
  seg : BitVec 17
  /-- K, NW bits (R36). -/
  k : Nat
  /-- EDONE (R36). -/
  edone : Bool
  /-- CSYM (R36). -/
  csym : Half
  /-- CDIR (R36). -/
  cdir : Dir
  /-- ASYM (R36). -/
  asym : Half
  /-- ADIR (R36). -/
  adir : Dir
  /-- S, the shift accumulator, SW bits (R37). -/
  acc : Nat
  /-- PHI, the phase accumulator, PHW bits (R37). -/
  phi : Nat
  /-- OUTQ, oldest record first (R40). -/
  outq : List Sample
  /-- The MODEL's own: how many free values have been taken, so that each is a fresh one (log 22). -/
  free : Nat
  /-- The MODEL's own: which agent moves next (R12, log 1). -/
  turns : List Agent
  /-- The MODEL's own: what the host has still to do (R94, log 2). -/
  program : List HostOp
  /-- The MODEL's own: the values the host's reads returned, newest first (log 13). -/
  reads : List Word
  /-- The MODEL's own: the records of the packet the sink is receiving, oldest first (log 11). -/
  received : List Sample
  /-- The MODEL's own: the packets the sink has whole, oldest first (log 11). -/
  packets : List (List Sample)
  deriving DecidableEq, Repr

/-- PMASK after reset (R45): five DOWN_CHIRP, then UP_CHIRP. -/
def resetMask (pmax : Nat) : List Word := List.replicate 5 1#32 ++ List.replicate (pmax - 5) 0#32

/-- R45 for given parameters. The fields R45 calls unspecified (OPK, K, EDONE, CSYM, CDIR, ASYM, ADIR, S, PHI, the
contents of MSGBUF and SYMBUF) hold the values logs 7 and 8 name. -/
def State.resetWith (p : Config.Params) : State :=
  { par := p
    done := false, err := false, cmdrej := false, wign := false, msgovf := false
    irqen := 0, fs := 0, bw := 0, f0 := 0, mode := 0
    plen := 8, pmask := resetMask p.pmax
    nsamp := 0, msglen := 0, msgbuf := [], nsym := 0, symbuf := [], result := 0
    errcode := 0, erridx := 0, errval := 0, symidx := 0
    eng := .idle, opk := .pkt, nseg := 0, seg := 0, k := 0, edone := false
    csym := 0, cdir := .up, asym := 0, adir := .up, acc := 0, phi := 0
    outq := [], free := 0, turns := [], program := [], reads := [], received := [], packets := [] }

/-- The machine right after reset, with the default parameters. -/
def State.reset : State := State.resetWith Config.defaultParams

end Sys2Proof.Machine
end

