-- ==== Sys2Proof/Machine/Operands.lean ====
section
/-! DEFINITION. What commands and engine steps read: the fields of MODE, of a slot descriptor and of an address, the
numbers the rules compute with, and the names of the registers (spec R29, R63, R86, R88, R141). -/

namespace Sys2Proof.Machine

open Sys2Proof

/-- SF of a MODE word, bits 4:0 (R29). -/
def modeSf (m : Word) : BitVec 5 := m.extractLsb' 0 5

/-- PERM of a MODE word, bits 9:8 (R29). -/
def modePerm (m : Word) : BitVec 2 := m.extractLsb' 8 2

/-- ENC of a MODE word, bit 12 (R29). -/
def modeEnc (m : Word) : Bool := m.getLsbD 12

/-- MODE from its fields (R88). -/
def modeWord (sf : BitVec 5) (perm : BitVec 2) (enc : BitVec 1) : Word :=
  sf.setWidth 32 ||| (perm.setWidth 32 <<< 8) ||| (enc.setWidth 32 <<< 12)

/-- KIND of a slot descriptor, bits 1:0 (R86). -/
def slotKind (d : Word) : BitVec 2 := d.extractLsb' 0 2

/-- VALUE of a slot descriptor, bits 31:16 (R86). -/
def slotValue (d : Word) : Half := d.extractLsb' 16 16

/-- The bits of IRQEN that are not RES (R25, R110). -/
def irqenMask : Word := 0x0000003E#32

/-- The bits of MODE that are not RES (R29, R112). -/
def modeMask : Word := 0x0000131F#32

/-- The bits of PMASK[i] that are not RES (R86, R114). -/
def slotMask : Word := 0xFFFF0003#32

/-- MODE.SF as a number. -/
def State.sf (s : State) : Nat := (modeSf s.mode).toNat

/-- PMASK[j] (R41). -/
def State.slotWord (s : State) (j : Nat) : Word := s.pmask.getD j 0#32

/-- The registers of the window (R63). -/
inductive Reg where
  | id
  | status
  | cmd
  | irqen
  | fs
  | bw
  | f0
  | mode
  | plen
  | nsampLo
  | nsampHi
  | msglen
  | msgdata
  | nsym
  | result
  | errcode
  | erridx
  | errval
  | segcnt
  | posseg
  | symidx
  | symdata
  | pmask (i : Nat)
  deriving DecidableEq, Repr

/-- The byte offset of a register (R63). -/
def regOffset : Reg → Nat
  | .id => 0x000
  | .status => 0x004
  | .cmd => 0x008
  | .irqen => 0x00C
  | .fs => 0x010
  | .bw => 0x014
  | .f0 => 0x018
  | .mode => 0x01C
  | .plen => 0x020
  | .nsampLo => 0x024
  | .nsampHi => 0x028
  | .msglen => 0x02C
  | .msgdata => 0x030
  | .nsym => 0x034
  | .result => 0x038
  | .errcode => 0x03C
  | .erridx => 0x040
  | .errval => 0x044
  | .segcnt => 0x048
  | .posseg => 0x04C
  | .symidx => 0x050
  | .symdata => 0x054
  | .pmask i => 0x100 + 4 * i

/-- The word index addr[8:2]: all of an address that the block decodes (R60, R61; log 14). -/
def wordIndex (addr : Word) : Nat := (addr.extractLsb' 2 7).toNat

/-- The register at word index j, for a mask file of `pmax` slots; none at a reserved offset (R63, R64). -/
def regOfIndex (pmax j : Nat) : Option Reg :=
  match j with
  | 0 => some .id
  | 1 => some .status
  | 2 => some .cmd
  | 3 => some .irqen
  | 4 => some .fs
  | 5 => some .bw
  | 6 => some .f0
  | 7 => some .mode
  | 8 => some .plen
  | 9 => some .nsampLo
  | 10 => some .nsampHi
  | 11 => some .msglen
  | 12 => some .msgdata
  | 13 => some .nsym
  | 14 => some .result
  | 15 => some .errcode
  | 16 => some .erridx
  | 17 => some .errval
  | 18 => some .segcnt
  | 19 => some .posseg
  | 20 => some .symidx
  | 21 => some .symdata
  | j => if 64 ≤ j ∧ j < 64 + pmax then some (.pmask (j - 64)) else none

/-- The register an address reaches (R100, R102). -/
def regAt (p : Config.Params) (addr : Word) : Option Reg := regOfIndex p.pmax (wordIndex addr)

end Sys2Proof.Machine
end

