-- ==== Sys2Proof/Machine/Chirp.lean ====
section
/-! DEFINITION. The arithmetic of a segment: rounding, N, the moduli, the recurrences of S and PHI, and a whole
segment as a pure function (spec R9, R106, R140 to R148). -/

namespace Sys2Proof.Machine

open Sys2Proof

/-- p / q rounded to the nearest integer, ties to even (R9). -/
def rhe (p q : Nat) : Nat :=
  let r := p / q
  let m := p - r * q
  if 2 * m < q then r else if q < 2 * m then r + 1 else if r % 2 = 0 then r else r + 1

/-- The configuration a segment reads (R140). -/
structure ChirpConfig where
  fs : Nat
  bw : Nat
  f0 : Nat
  sf : Nat
  deriving DecidableEq, Repr

/-- FS, BW, F0 and MODE.SF as numbers. -/
def State.chirp (s : State) : ChirpConfig :=
  { fs := s.fs.toNat, bw := s.bw.toNat, f0 := s.f0.toNat, sf := s.sf }

/-- N = rhe(FS * 2^SF, BW) (R106). -/
def segmentLength (c : ChirpConfig) : Nat := rhe (c.fs * 2 ^ c.sf) c.bw

/-- M = FS * 2^SF (R141). -/
def modulusM (c : ChirpConfig) : Nat := c.fs * 2 ^ c.sf

/-- D = FS * M (R141). -/
def modulusD (c : ChirpConfig) : Nat := c.fs * modulusM c

/-- S_0 = FS * sym (R142). -/
def shiftStart (c : ChirpConfig) (sym : Nat) : Nat := c.fs * sym

/-- S_{k+1} from S_k (R142). -/
def shiftNext (c : ChirpConfig) (acc : Nat) : Nat := (acc + c.bw) % modulusM c

/-- Fm_k from S_k (R143): the mirror of DOWN first, then the offset. -/
def freqScaled (c : ChirpConfig) (dir : Dir) (acc : Nat) : Nat :=
  (match dir with
    | .up => c.bw * acc
    | .down => c.bw * (modulusM c - acc)) + c.f0 * modulusM c

/-- PHI_{k+1} from PHI_k and S_k (R144). -/
def phaseNext (c : ChirpConfig) (dir : Dir) (acc phi : Nat) : Nat :=
  (phi + freqScaled c dir acc) % modulusD c

/-- (S_k, PHI_k) of the segment of `sym` and `dir` (R142, R144, R148). -/
def chirpAt (c : ChirpConfig) (sym : Nat) (dir : Dir) : Nat → Nat × Nat
  | 0 => (shiftStart c sym, 0)
  | k + 1 =>
    let p := chirpAt c sym dir k
    (shiftNext c p.1, phaseNext c dir p.1 p.2)

/-- The record of phase word `phi` (R146, R147). -/
def sampleOf (outW : Nat) (c : ChirpConfig) (phi : Nat) (first last : Bool) : Sample :=
  { phase := phi, i := Config.ampI outW phi (modulusD c), q := Config.ampQ outW phi (modulusD c)
    first := first, last := last }

/-- Synthesize(sym, dir) as N records (R140, R147); `lastSeg` says that it is the operation's last segment. -/
def synthesize (outW : Nat) (c : ChirpConfig) (n sym : Nat) (dir : Dir) (lastSeg : Bool) : List Sample :=
  (List.range n).map fun k =>
    sampleOf outW c (chirpAt c sym dir k).2 (decide (k = 0)) (lastSeg && decide (k + 1 = n))

end Sys2Proof.Machine
end

