-- ==== Sys2Proof/Machine/Flags.lean ====
section
/-! DEFINITION. STATUS, its flags and the interrupt line (spec R24, R109, R187, R189). -/

namespace Sys2Proof.Machine

open Sys2Proof

/-- STATUS.BUSY (R24): 1 exactly when ENG = RUN. -/
def State.busy (s : State) : Bool := s.eng == .run

/-- The word STATUS reads (R24): six flags, the RES bits 0. -/
def statusWord (s : State) : Word :=
  (0#26 : BitVec 26) ++ BitVec.ofBool s.msgovf ++ BitVec.ofBool s.wign ++ BitVec.ofBool s.cmdrej ++
    BitVec.ofBool s.err ++ BitVec.ofBool s.done ++ BitVec.ofBool s.busy

/-- The flags a rejection sets (R187). -/
inductive RejFlag where
  | cmdrej
  | wign
  | msgovf
  deriving DecidableEq, Repr

/-- A write of `v` to STATUS (R109): each of the bits 1 to 5 written as 1 is cleared. Clearing ERR this way is all
there is of a return from an error (R186). -/
def clearStatus (v : Word) (s : State) : State :=
  { s with
    done := s.done && !v.getLsbD 1
    err := s.err && !v.getLsbD 2
    cmdrej := s.cmdrej && !v.getLsbD 3
    wign := s.wign && !v.getLsbD 4
    msgovf := s.msgovf && !v.getLsbD 5 }

/-- The interrupt line (R189): some STATUS bit b of 1 to 5 is set with IRQEN[b]. -/
def State.irq (s : State) : Bool :=
  (s.done && s.irqen.getLsbD 1) || (s.err && s.irqen.getLsbD 2) || (s.cmdrej && s.irqen.getLsbD 3) ||
    (s.wign && s.irqen.getLsbD 4) || (s.msgovf && s.irqen.getLsbD 5)

end Sys2Proof.Machine
end

