-- ==== Sys2Proof/Machine/Ops.lean ====
section
/-! DEFINITION. The shared operations: buffers, raising an error, rejecting, reading slots, loading a segment,
accepting an operation (spec R42, R43, R101, R107, R162 to R165, R181 to R188). -/

namespace Sys2Proof.Machine

open Sys2Proof

/-- What a buffer cell nothing has written reads as (log 8; no rule reads such a cell, R46). -/
def Memory.unlisted (w : Nat) : BitVec w := 0#w

/-- Read one cell. -/
def Memory.read {w : Nat} : Memory w → Nat → BitVec w
  | [], _ => Memory.unlisted w
  | (b, v) :: m, a => if a = b then v else Memory.read m a

/-- Put a cell before `m`, unless it holds what an unlisted address reads as. -/
def Memory.put {w : Nat} (a : Nat) (v : BitVec w) (m : Memory w) : Memory w :=
  if v = Memory.unlisted w then m else (a, v) :: m

/-- Write one cell, keeping the canonical form. -/
def Memory.write {w : Nat} : Memory w → Nat → BitVec w → Memory w
  | [], a, v => Memory.put a v []
  | (b, u) :: m, a, v =>
    if a < b then Memory.put a v ((b, u) :: m)
    else if a = b then Memory.put a v m
    else (b, u) :: Memory.write m a v

/-- Write consecutive cells from address `a`. -/
def Memory.writeAll {w : Nat} : Memory w → Nat → List (BitVec w) → Memory w
  | m, _, [] => m
  | m, a, v :: vs => Memory.writeAll (Memory.write m a v) (a + 1) vs

/-- The canonical form: addresses strictly rising, no cell as an unlisted address reads. -/
abbrev Memory.wf {w : Nat} (m : Memory w) : Prop :=
  m.Pairwise (fun x y => x.1 < y.1) ∧ ∀ c ∈ m, c.2 ≠ Memory.unlisted w

/-- The causes of R181, each with what R182 records of it. -/
inductive Cause where
  /-- 0x11: MODE.SF < 1. -/
  | sfLow (sf : Nat)
  /-- 0x12: BW = 0. -/
  | bwZero
  /-- 0x13: FS = 0. -/
  | fsZero
  /-- 0x14: N = 0. -/
  | nZero
  /-- 0x15: MODE.SF > SF_MAX. -/
  | sfHigh (sf : Nat)
  /-- 0x16: MODE.PERM = 3. -/
  | permReserved
  /-- 0x17: PLEN > PMAX. -/
  | plenHigh (plen : Nat)
  /-- 0x18: PMASK[j].KIND = 3. -/
  | kindReserved (j : Nat)
  /-- 0x21: message symbol i out of range. -/
  | symbolRange (i sym : Nat)
  /-- 0x22: preamble literal of slot j out of range. -/
  | valueRange (j value : Nat)
  /-- 0x23: ARG of SYNTH out of range. -/
  | argRange (arg : Nat)
  deriving DecidableEq, Repr

/-- ERRCODE (R181). -/
def Cause.code : Cause → BitVec 8
  | .sfLow _ => 0x11
  | .bwZero => 0x12
  | .fsZero => 0x13
  | .nZero => 0x14
  | .sfHigh _ => 0x15
  | .permReserved => 0x16
  | .plenHigh _ => 0x17
  | .kindReserved _ => 0x18
  | .symbolRange _ _ => 0x21
  | .valueRange _ _ => 0x22
  | .argRange _ => 0x23

/-- ERRIDX (R182). -/
def Cause.idx : Cause → BitVec 17
  | .sfLow _ => 0
  | .bwZero => 0
  | .fsZero => 0
  | .nZero => 0
  | .sfHigh _ => 0
  | .permReserved => 0
  | .plenHigh _ => 0
  | .kindReserved j => BitVec.ofNat 17 j
  | .symbolRange i _ => BitVec.ofNat 17 i
  | .valueRange j _ => BitVec.ofNat 17 j
  | .argRange _ => 0

/-- ERRVAL (R182). -/
def Cause.val : Cause → Word
  | .sfLow sf => BitVec.ofNat 32 sf
  | .bwZero => 0
  | .fsZero => 0
  | .nZero => 0
  | .sfHigh sf => BitVec.ofNat 32 sf
  | .permReserved => 3
  | .plenHigh plen => BitVec.ofNat 32 plen
  | .kindReserved _ => 3
  | .symbolRange _ sym => BitVec.ofNat 32 sym
  | .valueRange _ value => BitVec.ofNat 32 value
  | .argRange arg => BitVec.ofNat 32 arg

/-- Raise an error, the block's one kind of exception (R184): the record and the flag, nothing else. -/
def raiseError (c : Cause) (s : State) : State :=
  { s with errcode := c.code, erridx := c.idx, errval := c.val, err := true }

/-- Reject a command or a write (R187): the flag, nothing else. -/
def reject (f : RejFlag) (s : State) : State :=
  match f with
  | .cmdrej => { s with cmdrej := true }
  | .wign => { s with wign := true }
  | .msgovf => { s with msgovf := true }

/-- CheckConfig() of R105, its errors in order; no error means that it returns N = `segmentLength`. -/
def configError (s : State) : Option Cause :=
  if s.sf < 1 then some (.sfLow s.sf)
  else if s.par.sfMax < s.sf then some (.sfHigh s.sf)
  else if s.bw = 0 then some .bwZero
  else if s.fs = 0 then some .fsZero
  else if segmentLength s.chirp = 0 then some .nZero
  else none

/-- Slot(j) of the operation in `s` (R162, R163); none where they give no row. -/
def slotOf (s : State) (j : Nat) : Option (Half × Dir) :=
  match s.opk with
  | .one => if j = 0 then some (s.asym, s.adir) else none
  | .pkt =>
    if j < s.plen.toNat then
      match (slotKind (s.slotWord j)).toNat with
      | 0 => some (0, .up)
      | 1 => some (0, .down)
      | 2 => some (slotValue (s.slotWord j), .down)
      | _ => none
    else if j < s.nseg.toNat then some (Memory.read s.symbuf (j - s.plen.toNat), .up)
    else none

/-- The engine at sample 0 of the segment of `sym` and `dir` (R165, R142, R144, R148). -/
def setSegment (sym : Half) (dir : Dir) (s : State) : State :=
  { s with csym := sym, cdir := dir, acc := shiftStart s.chirp sym.toNat, phi := 0, k := 0 }

/-- LoadSeg(j) of R165. -/
def loadSeg (j : Nat) (s : State) : Host.Outcome State Fault Refusal :=
  match slotOf s j with
  | some (sym, dir) => .next (setSegment sym dir s)
  | none => .fault .slotUndefined

/-- SEG <- 0, and EDONE (R165). -/
def rewind (edone : Bool) (s : State) : State := { s with seg := 0, edone := edone }

/-- The direction a free value stands for. -/
def freeDir (n : Nat) : Dir := if Config.freeDown n then .down else .up

/-- CSYM, CDIR, S, PHI and K of an operation with no segment: R46 has the accepted START write them, and no rule says
with what. Free values, within the ranges of R36 and R37 (log 22). -/
def leaveSegmentFree (s : State) : State :=
  { s with
    csym := Config.freeSymbol s.free
    cdir := freeDir s.free
    acc := Config.freeShift s.free % modulusM s.chirp
    phi := Config.freePhase s.free % modulusD s.chirp
    k := Config.freeIndex s.free % s.nsamp
    free := s.free + 1 }

/-- Engine initialisation (R165), after NSEG is set. -/
def engineInit (s : State) : Host.Outcome State Fault Refusal :=
  if s.nseg = 0 then .next (leaveSegmentFree (rewind true s)) else loadSeg 0 (rewind false s)

/-- What acceptance writes (R107): NSAMP, DONE, ENG; and OPK and NSEG (R153, R161). -/
def armEngine (opk : OpKind) (nseg : BitVec 17) (s : State) : State :=
  { s with nsamp := segmentLength s.chirp, done := false, eng := .run, opk := opk, nseg := nseg }

/-- Acceptance of an operation of `nseg` segments (R107), and the engine's initialisation. -/
def accept (opk : OpKind) (nseg : BitVec 17) (s : State) : Host.Outcome State Fault Refusal :=
  engineInit (armEngine opk nseg s)

end Sys2Proof.Machine
end

