-- ==== Sys2Proof/Machine/Command.lean ====
section
/-! DEFINITION. NOP and the reserved opcodes (spec R103, R104). -/

namespace Sys2Proof.Machine

open Sys2Proof

/-- NOP (R103): nothing, in every state of the engine. -/
def execNop (s : State) : Host.Outcome State Fault Refusal := .next s

/-- OP 0x6 and 0x7 (R104): rejected, the same for every engine state and whatever the opcode. -/
def execReserved67 (_op : BitVec 4) (s : State) : Host.Outcome State Fault Refusal := .next (reject .cmdrej s)

/-- OP 0x8 to 0xF (R104): rejected, the same for every engine state and whatever the opcode. -/
def execReserved8F (_op : BitVec 4) (s : State) : Host.Outcome State Fault Refusal := .next (reject .cmdrej s)

end Sys2Proof.Machine
end

