-- ==== Sys2Proof/Machine/Encoder.lean ====
section
/-! DEFINITION. The symbol encoder: the two permutations, the two message encodings, the commands GRAYF, GRAYI and
MSGCLR, and the MSGDATA push (spec R120 to R133). -/

namespace Sys2Proof.Machine

open Sys2Proof

/-- g(n) = n xor (n >> 1) (R123). -/
def gray (n : Nat) : Nat := n ^^^ (n >>> 1)

/-- The loop of R124, with fuel: accumulator `a`, shifting value `n`. -/
def grayInvLoop : Nat → Nat → Nat → Nat
  | 0, a, _ => a
  | fuel + 1, a, n => if n = 0 then a else grayInvLoop fuel (a ^^^ n) (n >>> 1)

/-- ginv(n) (R124). The loop halves n, so n rounds are enough. -/
def grayInv (n : Nat) : Nat := grayInvLoop n 0 n

/-- The message MSGBUF[0..MSGLEN-1] (R42). -/
def State.message (s : State) : List Byte := (List.range s.msglen.toNat).map (Memory.read s.msgbuf)

/-- Bit b_x of the message (R129 step 1), 0 beyond its end (step 3). -/
def messageBit (msg : List Byte) (x : Nat) : Nat :=
  if (msg.getD (x / 8) 0#8).getLsbD (7 - x % 8) then 1 else 0

/-- The pre-permutation symbols of raw byte mode (R128). -/
def rawSymbols (msg : List Byte) : List Nat := msg.map BitVec.toNat

/-- Group i of bit-partition mode (R129 step 3). -/
def bitGroup (msg : List Byte) (sf i : Nat) : Nat :=
  ((List.range sf).map fun t => messageBit msg (i * sf + t) * 2 ^ (sf - 1 - t)).sum

/-- The number of groups, ceil(8L / sf) (R129 step 2). -/
def groupCount (len sf : Nat) : Nat := (8 * len + (sf - 1)) / sf

/-- The pre-permutation symbols of bit-partition mode (R129). -/
def bitSymbols (msg : List Byte) (sf : Nat) : List Nat :=
  (List.range (groupCount msg.length sf)).map (bitGroup msg sf)

/-- The permutation MODE.PERM selects (R130). PERM = 3 never gets here: START has raised 0x16. -/
def permute (perm : BitVec 2) (n : Nat) : Nat :=
  match perm.toNat with
  | 1 => gray n
  | 2 => grayInv n
  | _ => n

/-- The symbols of Encode() before its range check (R128 to R130, R132). -/
def encodeMessage (msg : List Byte) (enc : Bool) (perm : BitVec 2) (sf : Nat) : List Nat :=
  (if enc then bitSymbols msg sf else rawSymbols msg).map (permute perm)

/-- Encode() of the message and mode in `s` (R132). -/
def State.symbols (s : State) : List Nat :=
  encodeMessage s.message (modeEnc s.mode) (modePerm s.mode) s.sf

/-- The first symbol of 2^sf or more, with its index (R131). -/
def firstOutOfRange (bound : Nat) : Nat → List Nat → Option (Nat × Nat)
  | _, [] => none
  | i, v :: vs => if bound ≤ v then some (i, v) else firstOutOfRange bound (i + 1) vs

/-- The EncodingError of Encode() (R131). -/
def symbolError (s : State) : Option Cause :=
  (firstOutOfRange (2 ^ s.sf) 0 s.symbols).map fun p => .symbolRange p.1 p.2

/-- MSGBUF[MSGLEN] <- b and MSGLEN <- MSGLEN + 1 (R120). -/
def appendByte (b : Byte) (s : State) : State :=
  { s with msgbuf := Memory.write s.msgbuf s.msglen.toNat b, msglen := s.msglen + 1 }

/-- A MSGDATA push of `v` (R120, R122). -/
def pushMessage (v : Word) (s : State) : State :=
  if s.eng = .run then reject .wign s
  else if s.msglen.toNat = s.par.msgMax then reject .msgovf s
  else appendByte (v.setWidth 8) s

/-- GRAYF (R126). Accepted in every state of the engine. -/
def execGrayf (arg : Half) (s : State) : Host.Outcome State Fault Refusal :=
  .next { s with result := BitVec.ofNat 16 (gray arg.toNat) }

/-- GRAYI (R127). Accepted in every state of the engine. -/
def execGrayi (arg : Half) (s : State) : Host.Outcome State Fault Refusal :=
  .next { s with result := BitVec.ofNat 16 (grayInv arg.toNat) }

/-- MSGCLR (R121), rejected while ENG = RUN (R101). MSGBUF keeps its bytes. -/
def execMsgclr (s : State) : Host.Outcome State Fault Refusal :=
  if s.eng = .run then .next (reject .cmdrej s) else .next { s with msglen := 0 }

end Sys2Proof.Machine
end

