-- ==== Sys2Proof/Machine/Packet.lean ====
section
/-! DEFINITION. START: the checks of a packet in order, and its acceptance (spec R160, R161, R183). -/

namespace Sys2Proof.Machine

open Sys2Proof

/-- MODE.PERM = 3 (R161, code 0x16). -/
def permError (s : State) : Option Cause :=
  if modePerm s.mode = 3 then some .permReserved else none

/-- PLEN > PMAX (R161, code 0x17). -/
def plenError (s : State) : Option Cause :=
  if s.par.pmax < s.plen.toNat then some (.plenHigh s.plen.toNat) else none

/-- The lowest slot below PLEN of reserved KIND (R161, code 0x18). -/
def kindError (s : State) : Option Cause :=
  (List.range s.plen.toNat).findSome? fun j =>
    if slotKind (s.slotWord j) = 3 then some (.kindReserved j) else none

/-- The lowest SYMBOL slot below PLEN with VALUE of 2^sf or more (R161, code 0x22). -/
def valueError (s : State) : Option Cause :=
  (List.range s.plen.toNat).findSome? fun j =>
    if slotKind (s.slotWord j) = 2 ∧ 2 ^ s.sf ≤ (slotValue (s.slotWord j)).toNat then
      some (.valueRange j (slotValue (s.slotWord j)).toNat)
    else none

/-- The checks of START in order (R161, R183). -/
def startError (s : State) : Option Cause :=
  (configError s).or <| (permError s).or <| (plenError s).or <| (kindError s).or <|
    (valueError s).or (symbolError s)

/-- SYMBUF and NSYM of an accepted START (R132). -/
def latchSymbols (syms : List Nat) (s : State) : State :=
  { s with
    symbuf := Memory.writeAll s.symbuf 0 (syms.map (BitVec.ofNat 16))
    nsym := BitVec.ofNat 16 syms.length }

/-- ASYM and ADIR of an accepted START: R46 has it write them, and no rule says with what. Free values (log 22). -/
def leaveArgFree (s : State) : State :=
  { s with asym := Config.freeSymbol s.free, adir := freeDir s.free, free := s.free + 1 }

/-- START (R101, R160, R161). -/
def execStart (s : State) : Host.Outcome State Fault Refusal :=
  if s.eng = .run then .next (reject .cmdrej s)
  else
    match startError s with
    | some c => .next (raiseError c s)
    | none => accept .pkt (BitVec.ofNat 17 (s.plen.toNat + s.symbols.length)) (leaveArgFree (latchSymbols s.symbols s))

end Sys2Proof.Machine
end

