-- ==== Sys2Proof/Machine/Synth.lean ====
section
/-! DEFINITION. SYNTH, one segment of a given symbol (spec R153). -/

namespace Sys2Proof.Machine

open Sys2Proof

/-- The checks of SYNTH in order (R153): CheckConfig, then the range of ARG. PERM, PLEN and PMASK are not
checked. -/
def synthError (arg : Half) (s : State) : Option Cause :=
  (configError s).or (if 2 ^ s.sf ≤ arg.toNat then some (.argRange arg.toNat) else none)

/-- ASYM and ADIR of an accepted SYNTH (R153). -/
def latchArg (arg : Half) (dir : Dir) (s : State) : State := { s with asym := arg, adir := dir }

/-- SYNTH in direction `dir` (R101, R153). -/
def synth (dir : Dir) (arg : Half) (s : State) : Host.Outcome State Fault Refusal :=
  if s.eng = .run then .next (reject .cmdrej s)
  else
    match synthError arg s with
    | some c => .next (raiseError c s)
    | none => accept .one 1 (latchArg arg dir s)

/-- SYNTH.UP (R153). -/
def execSynthUp (arg : Half) (s : State) : Host.Outcome State Fault Refusal := synth .up arg s

/-- SYNTH.DN (R153). -/
def execSynthDn (arg : Half) (s : State) : Host.Outcome State Fault Refusal := synth .down arg s

end Sys2Proof.Machine
end

