-- ==== Sys2Proof/Machine/Dispatch.lean ====
section
/-! DEFINITION. One arm per command (spec R81, R101). -/

namespace Sys2Proof.Machine

open Sys2Proof

def exec (i : Instr) (s : State) : Host.Outcome State Fault Refusal :=
  match i with
  | .nop => Sys2Proof.Machine.execNop s
  | .start => Sys2Proof.Machine.execStart s
  | .synthUp arg => Sys2Proof.Machine.execSynthUp arg s
  | .synthDn arg => Sys2Proof.Machine.execSynthDn arg s
  | .grayf arg => Sys2Proof.Machine.execGrayf arg s
  | .grayi arg => Sys2Proof.Machine.execGrayi arg s
  | .msgclr => Sys2Proof.Machine.execMsgclr s
  | .reserved67 op => Sys2Proof.Machine.execReserved67 op s
  | .reserved8F op => Sys2Proof.Machine.execReserved8F op s

end Sys2Proof.Machine
end

