-- ==== Sys2Proof/Machine/Bus.lean ====
section
/-! DEFINITION. The register port: reads, writes, the write lock (spec R22, R60 to R65, R100, R102, R108 to
R115). -/

namespace Sys2Proof.Machine

open Sys2Proof

/-- SYMDATA (R39). -/
def symData (s : State) : Half :=
  if s.symidx < s.nsym then Memory.read s.symbuf s.symidx.toNat else 0

/-- The value of a register (R102, R23 to R39); WO registers read 0 (R64), and so does PMASK[i] for i >= PMAX. -/
def readReg (s : State) (r : Reg) : Word :=
  match r with
  | .id => s.par.idValue
  | .status => statusWord s
  | .cmd => 0
  | .irqen => s.irqen
  | .fs => s.fs
  | .bw => s.bw
  | .f0 => s.f0
  | .mode => s.mode
  | .plen => s.plen.setWidth 32
  | .nsampLo => BitVec.ofNat 32 s.nsamp
  | .nsampHi => BitVec.ofNat 32 (s.nsamp % 2 ^ s.par.nw / 2 ^ 32)
  | .msglen => s.msglen.setWidth 32
  | .msgdata => 0
  | .nsym => s.nsym.setWidth 32
  | .result => s.result.setWidth 32
  | .errcode => s.errcode.setWidth 32
  | .erridx => s.erridx.setWidth 32
  | .errval => s.errval
  | .segcnt => s.nseg.setWidth 32
  | .posseg => s.seg.setWidth 32
  | .symidx => s.symidx.setWidth 32
  | .symdata => (symData s).setWidth 32
  | .pmask i => s.slotWord i

/-- MemRead (R102): a reserved offset reads 0 (R64). -/
def memRead (s : State) (addr : Word) : Word :=
  match regAt s.par addr with
  | some r => readReg s r
  | none => 0

/-- A write under the write lock (R108): `t` while ENG = IDLE, only WIGN while ENG = RUN. -/
def lockedWrite (s t : State) : State := if s.eng = .run then reject .wign s else t

/-- A write of `v` to a register other than CMD (R100). An RO register ignores it (R64). -/
def writeReg (r : Reg) (v : Word) (s : State) : State :=
  match r with
  | .status => clearStatus v s
  | .irqen => { s with irqen := v &&& irqenMask }
  | .fs => lockedWrite s { s with fs := v }
  | .bw => lockedWrite s { s with bw := v }
  | .f0 => lockedWrite s { s with f0 := v }
  | .mode => lockedWrite s { s with mode := v &&& modeMask }
  | .plen => lockedWrite s { s with plen := v.setWidth 8 }
  | .msgdata => pushMessage v s
  | .symidx => { s with symidx := v.setWidth 16 }
  | .pmask i => lockedWrite s { s with pmask := s.pmask.set i (v &&& slotMask) }
  | .id => s
  | .cmd => s
  | .nsampLo => s
  | .nsampHi => s
  | .msglen => s
  | .nsym => s
  | .result => s
  | .errcode => s
  | .erridx => s
  | .errval => s
  | .segcnt => s
  | .posseg => s
  | .symdata => s

/-- MemWrite (R100): a write to CMD runs the command (R13, R101), one to a reserved offset does nothing (R64). -/
def memWrite (addr v : Word) (s : State) : Host.Outcome State Fault Refusal :=
  match regAt s.par addr with
  | some .cmd => exec (decodeWord v) s
  | some r => .next (writeReg r v s)
  | none => .next s

end Sys2Proof.Machine
end

