-- ==== Sys2Proof/Machine/Engine.lean ====
section
/-! DEFINITION. The engine's steps, and the record sequence of an operation as a pure function (spec R164 to
R168). -/

namespace Sys2Proof.Machine

open Sys2Proof

/-- SEG <- SEG + 1 (R167). -/
def countSegment (s : State) : State := { s with seg := s.seg + 1 }

/-- EDONE <- 1 (R167), and K returns to 0, as at each segment boundary (R36; log 16). -/
def setEdone (s : State) : State := { s with edone := true, k := 0 }

/-- Segment boundary (R167), after the last sample of a segment. -/
def segmentBoundary (s : State) : Host.Outcome State Fault Refusal :=
  if s.seg.toNat + 1 = s.nseg.toNat then .next (setEdone (countSegment s))
  else loadSeg (s.seg.toNat + 1) (countSegment s)

/-- The record the engine pushes next (R166). -/
def currentSample (s : State) : Sample :=
  sampleOf s.par.outW s.chirp s.phi (decide (s.k = 0))
    (decide (s.seg.toNat + 1 = s.nseg.toNat) && decide (s.k + 1 = s.nsamp))

/-- S, PHI and K after the push (R166). -/
def advance (s : State) : State :=
  { s with
    outq := s.outq ++ [currentSample s]
    phi := phaseNext s.chirp s.cdir s.acc s.phi
    acc := shiftNext s.chirp s.acc
    k := s.k + 1 }

/-- The emit step (R166). -/
def emit (s : State) : Host.Outcome State Fault Refusal :=
  if s.fs = 0 then .fault .zeroModulus
  else if s.k + 1 = s.nsamp then segmentBoundary (advance s)
  else .next (advance s)

/-- The completion step (R168). -/
def complete (s : State) : State := { s with eng := .idle, done := true }

/-- When the emit step is enabled (R166). -/
def emitEnabled (s : State) : Bool :=
  s.eng == .run && !s.edone && decide (s.outq.length < s.par.outDepth)

/-- When the completion step is enabled (R168). -/
def completeEnabled (s : State) : Bool := s.eng == .run && s.edone && s.outq.isEmpty

/-- The engine's turn: its enabled step, or nothing while it holds or is idle (R166, R168; log 15). -/
def engineStep (s : State) : Host.Outcome State Fault Refusal :=
  if emitEnabled s then emit s
  else if completeEnabled s then .next (complete s)
  else .next s

/-- The records of segment j of the operation in `s` (R164). -/
def segmentRecords (s : State) (j : Nat) : List Sample :=
  match slotOf s j with
  | some (sym, dir) =>
    synthesize s.par.outW s.chirp s.nsamp sym.toNat dir (decide (j + 1 = s.nseg.toNat))
  | none => []

/-- The record sequence of the operation in `s` (R164). -/
def operationRecords (s : State) : List Sample := (List.range s.nseg.toNat).flatMap (segmentRecords s)

end Sys2Proof.Machine
end

