-- ==== Sys2Proof/Machine/Stream.lean ====
section
/-! DEFINITION. The stream port and the sink behind it (spec R66, R67, R89, R202). -/

namespace Sys2Proof.Machine

open Sys2Proof

/-- `s_valid` (R66). -/
def State.streamValid (s : State) : Bool := !s.outq.isEmpty

/-- `s_phase`, `s_i`, `s_q`, `s_first`, `s_last` while `s_valid` is 1 (R66, R89): PHW bits unsigned, OUT_W bits two's
complement twice, two bits. -/
def State.streamPort (s : State) :
    Option (BitVec s.par.phw × BitVec s.par.outW × BitVec s.par.outW × Bool × Bool) :=
  s.outq.head?.map fun r =>
    (BitVec.ofNat s.par.phw r.phase, BitVec.ofInt s.par.outW r.i, BitVec.ofInt s.par.outW r.q, r.first, r.last)

/-- The sink's side of a transfer: the record joins the packet being received, and LAST ends the packet (R40, R66;
log 11). -/
def deliver (r : Sample) (s : State) : State :=
  if r.last then { s with packets := s.packets ++ [s.received ++ [r]], received := [] }
  else { s with received := s.received ++ [r] }

/-- The sink's turn, `s_ready` = 1 (R66): the head record is delivered and removed; nothing while OUTQ is empty. -/
def sinkStep (s : State) : State :=
  match s.outq with
  | [] => s
  | r :: rest => deliver r { s with outq := rest }

end Sys2Proof.Machine
end

