-- ==== Sys2Proof/Machine/Agents.lean ====
section
/-! DEFINITION. The turn of each agent (spec R12, R13, R69, R94, R200). -/

namespace Sys2Proof.Machine

open Sys2Proof

/-- A bus read as the host sees it (R65): the value is noted by the host (log 13), the block is as it was. -/
def noteRead (v : Word) (s : State) : State := { s with reads := v :: s.reads }

/-- The host goes on with `rest` of its program. -/
def popOp (rest : List HostOp) (s : State) : State := { s with program := rest }

/-- The schedule goes on with `rest`. -/
def popTurn (rest : List Agent) (s : State) : State := { s with turns := rest }

/-- The host's turn (R12, R61, R94): its next bus operation; nothing when its program has ended. A POLL line stays
until the value it waits for has been read. -/
def hostStep (s : State) : Host.Outcome State Fault Refusal :=
  match s.program with
  | [] => .next s
  | .read addr size :: rest =>
    if size = 4 then .next (noteRead (memRead s addr) (popOp rest s)) else .refused (.busSize size)
  | .write addr size v :: rest =>
    if size = 4 then memWrite addr v (popOp rest s) else .refused (.busSize size)
  | .poll addr mask value :: rest =>
    if memRead s addr &&& mask = value then .next (noteRead (memRead s addr) (popOp rest s))
    else .next (noteRead (memRead s addr) s)

/-- The reset step (R200): the block as R45 says, for the same parameters. The host and the schedule are outside the
block and stay; the sink keeps its whole packets and discards the one it has not received whole (R202, log 11). The
count of free values goes on (log 22). -/
def resetStep (s : State) : State :=
  { State.resetWith s.par with
    free := s.free, turns := s.turns, program := s.program, reads := s.reads, packets := s.packets }

/-- One agent's turn. -/
def agentStep (a : Agent) (s : State) : Host.Outcome State Fault Refusal :=
  match a with
  | .host => hostStep s
  | .engine => engineStep s
  | .sink => .next (sinkStep s)
  | .reset => .next (resetStep s)

/-- The next turn is taken from `turns`; with no turn left nothing moves (R12, R195; log 1). -/
def takeTurn (s : State) : Host.Outcome State Fault Refusal :=
  match s.turns with
  | [] => .next s
  | a :: rest => agentStep a (popTurn rest s)

/-- The host's next operation becomes a write of `w` to CMD, and the next turn the host's (log 2). -/
def placeCommand (w : Word) (s : State) : State :=
  { s with turns := .host :: s.turns, program := .write 0x008#32 4 w :: s.program }

end Sys2Proof.Machine
end

