-- ==== Sys2Proof/Machine/Step.lean ====
section
/-! DEFINITION. One step of the whole machine, and where a command is placed so that the next step runs it (spec
R12, R13). -/

namespace Sys2Proof.Machine

open Sys2Proof

/-- One step: the turn of one agent. -/
def step (s : State) : Host.Outcome State Fault Refusal := takeTurn s

/-- `s` with the command of `nbits` bits `w`, the bits above them 0, placed so that the very next step runs it. -/
def State.withFetchWord (s : State) (nbits w : Nat) : State :=
  placeCommand (BitVec.ofNat 32 (w % 2 ^ nbits)) s

end Sys2Proof.Machine
end

