-- ==== Sys2Proof/Machine/Assembler.lean ====
section
/-! DEFINITION. The assembler syntax of commands and the lines of a host program (spec R90, R93, R94). -/

namespace Sys2Proof.Machine

open Sys2Proof

/-- The value of a decimal digit. -/
def decDigit (c : Char) : Option Nat :=
  if 48 ≤ c.toNat ∧ c.toNat ≤ 57 then some (c.toNat - 48) else none

/-- The value of a hexadecimal digit, either case. -/
def hexDigit (c : Char) : Option Nat :=
  if 97 ≤ c.toNat ∧ c.toNat ≤ 102 then some (c.toNat - 87)
  else if 65 ≤ c.toNat ∧ c.toNat ≤ 70 then some (c.toNat - 55)
  else decDigit c

/-- Digits to a number in base `base`, on top of `acc`. -/
def digits (base : Nat) (digit : Char → Option Nat) : Nat → List Char → Option Nat
  | acc, [] => some acc
  | acc, c :: cs =>
    match digit c with
    | some d => digits base digit (acc * base + d) cs
    | none => none

/-- An operand in decimal, or in hexadecimal after 0x (R93). -/
def parseOperand : List Char → Option Nat
  | [] => none
  | '0' :: 'x' :: c :: cs => digits 16 hexDigit 0 (c :: cs)
  | c :: cs => digits 10 decDigit 0 (c :: cs)

/-- Why the assembler refuses a line (R93). -/
inductive AsmError where
  /-- The mnemonic is not in R93's table. Safe: no word is written. -/
  | unknownMnemonic
  /-- The operand is no number, or there is one too many or too few. Safe: no word is written. -/
  | badOperand
  /-- The operand is not 0 to 65535. Safe: no word is written. -/
  | operandRange (a : Nat)
  deriving DecidableEq, Repr

/-- The operand `a` of R93: 0 to 65535. -/
def asmOperand (text : Option (List Char)) : Except AsmError Half :=
  match text.bind parseOperand with
  | none => .error .badOperand
  | some a => if a < 65536 then .ok (BitVec.ofNat 16 a) else .error (.operandRange a)

/-- A command that takes an operand. -/
def asmWith (mk : Half → Instr) (text : Option (List Char)) : Except AsmError Word :=
  match asmOperand text with
  | .ok a => .ok (encode (mk a))
  | .error e => .error e

/-- A command that takes none. -/
def asmPlain (i : Instr) (text : Option (List Char)) : Except AsmError Word :=
  match text with
  | none => .ok (encode i)
  | some _ => .error .badOperand

/-- The word of a command line (R93): a mnemonic, and the text of its operand where there is one. -/
def assemble (mnemonic : String) (operand : Option (List Char)) : Except AsmError Word :=
  if mnemonic = "NOP" then asmPlain .nop operand
  else if mnemonic = "START" then asmPlain .start operand
  else if mnemonic = "SYNTH.UP" then asmWith .synthUp operand
  else if mnemonic = "SYNTH.DN" then asmWith .synthDn operand
  else if mnemonic = "GRAYF" then asmWith .grayf operand
  else if mnemonic = "GRAYI" then asmWith .grayi operand
  else if mnemonic = "MSGCLR" then asmPlain .msgclr operand
  else .error .unknownMnemonic

/-- What a SLOT line puts into a slot (R94), which is also what a slot descriptor means (R86). -/
inductive SlotSpec where
  | up
  | dn
  | sym (v : Half)
  deriving DecidableEq, Repr

/-- The slot descriptor (R86). -/
def slotDescriptor : SlotSpec → Word
  | .up => 0#32
  | .dn => 1#32
  | .sym v => (v.setWidth 32 <<< 16) ||| 2#32

/-- A slot of the source's integer mask: -1 and 1 only; no other integer has a translation (R90). -/
def sourceSlot (n : Int) : Option SlotSpec :=
  if n = -1 then some .dn else if n = 1 then some .up else none

/-- A line of a host program (R94). DESIGN CHOICE: R94 gives the operands of SETMODE and the v of SLOT i, SYM v no
range; here they have the widths of their fields (SF 5, PERM 2, ENC 1, VALUE 16 bits), and there is no line for a wider
operand (log 28). -/
inductive Line where
  | wr (r : Reg) (imm : Word)
  | rd (r : Reg)
  | cmd (i : Instr)
  | push (b : Byte)
  | pushs (text : List Char)
  | setmode (sf : BitVec 5) (perm : BitVec 2) (enc : BitVec 1)
  | slot (i : Nat) (d : SlotSpec)
  | poll (r : Reg) (mask value : Word)
  | waitIdle
  | clrstat
  deriving DecidableEq, Repr

/-- The address of a register, as an offset in the window. -/
def regAddr (r : Reg) : Word := BitVec.ofNat 32 (regOffset r)

/-- WR <reg>, <imm32>. -/
def writeOp (r : Reg) (imm : Word) : HostOp := .write (regAddr r) 4 imm

/-- The bus operations of a line (R94). DESIGN CHOICE: R94 speaks of a PUSHS character's ASCII code only; a character
that has none is pushed as its Unicode code point, of which MSGDATA takes the low byte (log 25). DESIGN CHOICE: a line
that names PMASK[i] with i of PMAX or more, of which R63 knows none, is expanded as for any other i (log 26). DESIGN CHOICE:
R93 gives no mnemonic to a reserved opcode, and a CMD line that names one, ill-formed or not, is expanded to `encode`'s
word for it (log 27). -/
def Line.expand : Line → List HostOp
  | .wr r imm => [writeOp r imm]
  | .rd r => [.read (regAddr r) 4]
  | .cmd i => [writeOp .cmd (encode i)]
  | .push b => [writeOp .msgdata (b.setWidth 32)]
  | .pushs text => text.map fun c => writeOp .msgdata (BitVec.ofNat 32 c.toNat)
  | .setmode sf perm enc => [writeOp .mode (modeWord sf perm enc)]
  | .slot i d => [writeOp (.pmask i) (slotDescriptor d)]
  | .poll r mask value => [.poll (regAddr r) mask value]
  | .waitIdle => [.poll (regAddr .status) 0x1#32 0x0#32]
  | .clrstat => [writeOp .status 0x3E#32]

/-- A host program as the bus operations of its lines, in order (R94). -/
def hostProgram (lines : List Line) : List HostOp := lines.flatMap Line.expand

end Sys2Proof.Machine
end

