-- ==== Sys2Proof/Safety.lean ====
section
/-! DEFINITION. The terms the statements use: the conditions a command checks, the invariants of the machine and of
the stream, what no observation depends on, and the accuracy of the amplitudes (spec R44, R46, R105, R146, R153,
R161, R164). -/

namespace Sys2Proof.Machine

open Sys2Proof

/-- CheckConfig() of R105 returns. -/
structure ConfigOk (s : State) : Prop where
  sf_low : 1 ≤ s.sf
  sf_high : s.sf ≤ s.par.sfMax
  bw_pos : s.bw ≠ 0
  fs_pos : s.fs ≠ 0
  n_pos : segmentLength s.chirp ≠ 0

/-- The checks of START on the mode and the mask pass (R161, codes 0x16, 0x17, 0x18). -/
structure MaskOk (s : State) : Prop where
  perm : modePerm s.mode ≠ 3
  plen : s.plen.toNat ≤ s.par.pmax
  kinds : ∀ j < s.plen.toNat, slotKind (s.slotWord j) ≠ 3

/-- The preamble's literal symbols are in range (R161, code 0x22). -/
def ValuesOk (s : State) : Prop :=
  ∀ j < s.plen.toNat, slotKind (s.slotWord j) = 2 → (slotValue (s.slotWord j)).toNat < 2 ^ s.sf

/-- The message's symbols are in range (R131, code 0x21). -/
def SymbolsOk (s : State) : Prop := ∀ v ∈ s.symbols, v < 2 ^ s.sf

/-- `s` after a raise of `code`, `idx`, `val` (R184). -/
def raisedAs (code : BitVec 8) (idx : BitVec 17) (val : Word) (s : State) : State :=
  { s with errcode := code, erridx := idx, errval := val, err := true }

/-- Slot(j) exists and its symbol is a symbol of the spreading factor (R140, R162, R163). -/
def slotGood (s : State) (j : Nat) : Bool :=
  match slotOf s j with
  | some (sym, _) => decide (sym.toNat < 2 ^ s.sf)
  | none => false

/-- NSEG as its operation fixes it (R153, R161). -/
def nsegOf (s : State) : Nat :=
  match s.opk with
  | .pkt => s.plen.toNat + s.nsym.toNat
  | .one => 1

/-- What holds while ENG = RUN (R36, R37, R44, R107, R153, R161, R165 to R167). -/
structure RunOk (s : State) : Prop where
  sf_low : 1 ≤ s.sf
  sf_high : s.sf ≤ s.par.sfMax
  bw_pos : s.bw ≠ 0
  fs_pos : s.fs ≠ 0
  nsamp_eq : s.nsamp = segmentLength s.chirp
  nsamp_pos : 0 < s.nsamp
  nseg_eq : s.nseg.toNat = nsegOf s
  slots : ∀ j < s.nseg.toNat, slotGood s j = true
  k_lt : s.k < s.nsamp
  acc_lt : s.acc < modulusM s.chirp
  phi_lt : s.phi < modulusD s.chirp
  emitting : s.edone = false → s.seg.toNat < s.nseg.toNat
  finished : s.edone = true → s.seg = s.nseg

/-- The invariant of the machine: R44, the RES bits (R22), the widths (R6, R36, R37) and the canonical form of the
two buffers. -/
structure Inv (s : State) : Prop where
  params : s.par.admissible
  busy_is_run : (statusWord s).getLsbD 0 = decide (s.eng = .run)
  irqen_res : s.irqen &&& ~~~irqenMask = 0
  mode_res : s.mode &&& ~~~modeMask = 0
  pmask_res : ∀ d ∈ s.pmask, d &&& ~~~slotMask = 0
  pmask_size : s.pmask.length = s.par.pmax
  msglen_le : s.msglen.toNat ≤ s.par.msgMax
  msgbuf_wf : Memory.wf s.msgbuf
  msgbuf_in : ∀ c ∈ s.msgbuf, c.1 < s.par.msgMax
  nsym_le : s.nsym.toNat ≤ s.par.symMax
  symbuf_wf : Memory.wf s.symbuf
  symbuf_in : ∀ c ∈ s.symbuf, c.1 < s.par.symMax
  nsamp_fits : s.nsamp < 2 ^ s.par.nw
  k_fits : s.k < 2 ^ s.par.nw
  acc_fits : s.acc < 2 ^ s.par.nw
  phi_fits : s.phi < 2 ^ s.par.phw
  seg_le : s.seg.toNat ≤ s.nseg.toNat
  outq_le : s.outq.length ≤ s.par.outDepth
  idle_drained : s.eng = .idle → s.outq = []
  run_ok : s.eng = .run → RunOk s

/-- The stream so far is the operation's record sequence so far (R67, R164, R169): while the engine emits, the
accumulators stand at sample K of Slot(SEG) and the sink and OUTQ hold between them the first SEG * N + K records;
once it has emitted all, either the last records still stand in OUTQ or the sink has the packet whole; and while ENG = IDLE
no packet is half received. -/
structure StreamInv (s : State) : Prop where
  idle : s.eng = .idle → s.received = []
  emitting : s.eng = .run → s.edone = false →
    slotOf s s.seg.toNat = some (s.csym, s.cdir) ∧
    (s.acc, s.phi) = chirpAt s.chirp s.csym.toNat s.cdir s.k ∧
    s.received ++ s.outq = (operationRecords s).take (s.seg.toNat * s.nsamp + s.k)
  emitted : s.eng = .run → s.edone = true →
    (s.outq ≠ [] ∧ s.received ++ s.outq = operationRecords s) ∨
    (s.outq = [] ∧ s.received = [] ∧
      (s.nseg = 0 ∨ s.packets.getLast? = some (operationRecords s)))

/-- The cells below address n. -/
def keepBelow {w : Nat} (n : Nat) (m : Memory w) : Memory w := m.filter fun c => decide (c.1 < n)

/-- `s` without what R46 and X6 say no observation depends on: buffer contents at or above MSGLEN and NSYM, the engine
fields while ENG = IDLE, the sample position once EDONE = 1, ASYM and ADIR in a packet, the count of free values. -/
def forget (s : State) : State :=
  let live := s.eng == .run
  let emits := live && !s.edone
  let single := live && s.opk == .one
  { s with
    msgbuf := keepBelow s.msglen.toNat s.msgbuf
    symbuf := keepBelow s.nsym.toNat s.symbuf
    opk := if live then s.opk else .pkt
    edone := live && s.edone
    k := if emits then s.k else 0
    csym := if emits then s.csym else 0
    cdir := if emits then s.cdir else .up
    acc := if emits then s.acc else 0
    phi := if emits then s.phi else 0
    asym := if single then s.asym else 0
    adir := if single then s.adir else .up
    free := 0 }

/-- R146 property 3 for words of `outW` bits: AMP_I and AMP_Q are within `eps` of cos and sin. -/
def AmpAccurate (outW : Nat) (eps : ℝ) : Prop :=
  ∀ p d : Nat, p < d →
    |(Config.ampI outW p d : ℝ) / (Config.fullScale outW : ℝ) - Real.cos (2 * Real.pi * p / d)| ≤ eps ∧
    |(Config.ampQ outW p d : ℝ) / (Config.fullScale outW : ℝ) - Real.sin (2 * Real.pi * p / d)| ≤ eps

/-- `s` with a given schedule and host program. -/
def scheduled (turns : List Agent) (program : List HostOp) (s : State) : State :=
  { s with turns := turns, program := program }

/-- The schedule that alternates engine and sink for `n` records and then completes (R212). -/
def fairTurns (n : Nat) : List Agent := (List.replicate n [Agent.engine, Agent.sink]).flatten ++ [Agent.engine]

end Sys2Proof.Machine
end

