-- ==== Sys2Proof/Certificates/Slice0/Obligations.lean ====
section
/-! DEFINITION. The statements for the provers. Each docstring names the rule of the spec it formalises, or says what
it derives from. A `next` state written as a record update is the whole frame: every field not named keeps its
value, MSGBUF and SYMBUF with all their cells among them. -/

open Sys2Proof Sys2Proof.Machine

/-! ### The command word -/

/-- R93 and R91: the decoder gives back every well-formed command from the word the assembler writes for it, as a bus
word, as four little-endian bytes and as a word of the opcode table. -/
def Obligations.DecodeOfEncode : Prop :=
  ∀ i : Instr, i.wf = true →
    decodeWord (encode i) = i ∧
    decode (bytesOf 4 (encode i).toNat) = .ok i ∧
    decodeTableWord 32 (encode i).toNat = some i

/-- R80, R82, R84: OP is bits 3:0, DIR is bit 4 and only SYNTH reads it, ARG is bits 31:16, and no other bit of a word
matters, for all words. -/
def Obligations.WordFieldsSelectCommand : Prop :=
  ∀ w : Word,
    let op := w.toNat % 16
    let dir := w.toNat / 16 % 2
    let arg := BitVec.ofNat 16 (w.toNat / 65536)
    (op = 0 → decodeWord w = .nop) ∧
    (op = 1 → decodeWord w = .start) ∧
    (op = 2 → dir = 0 → decodeWord w = .synthUp arg) ∧
    (op = 2 → dir = 1 → decodeWord w = .synthDn arg) ∧
    (op = 3 → decodeWord w = .grayf arg) ∧
    (op = 4 → decodeWord w = .grayi arg) ∧
    (op = 5 → decodeWord w = .msgclr) ∧
    (op = 6 ∨ op = 7 → decodeWord w = .reserved67 (BitVec.ofNat 4 op)) ∧
    (8 ≤ op → decodeWord w = .reserved8F (BitVec.ofNat 4 op))

/-- The opcode table and R91: every word lies in the row of the command it decodes to, that command is well-formed, and
no word lies in two rows. -/
def Obligations.OpcodeRowsPartitionWords : Prop :=
  ∀ w : Word,
    (decodeWord w).wf = true ∧
    w &&& rowMask (decodeWord w) = rowMatch (decodeWord w) ∧
    ∀ i : Instr, i.wf = true → w &&& rowMask i = rowMatch i → rowMatch i = rowMatch (decodeWord w)

/-- R93's example words, and words with ignored bits set, decode as R81 says. -/
def Obligations.ExampleWordsDecode : Prop :=
  decodeTableWord 32 0x00000000 = some .nop ∧
  decodeTableWord 32 0xFFFFFFF0 = some .nop ∧
  decodeTableWord 32 0x00000001 = some .start ∧
  decodeTableWord 32 0x00410002 = some (.synthUp 65) ∧
  decodeTableWord 32 0x00000012 = some (.synthDn 0) ∧
  decodeTableWord 32 0x00410013 = some (.grayf 65) ∧
  decodeTableWord 32 0x00610004 = some (.grayi 97) ∧
  decodeTableWord 32 0x00000005 = some .msgclr ∧
  decodeTableWord 32 0x00000007 = some (.reserved67 7) ∧
  decodeTableWord 32 0xFFFFFFFF = some (.reserved8F 15)

/-- R93: the assembler writes the table's words for operands 0 to 65535, read as decimal or, after 0x, as hexadecimal
digits, and refuses other operands and other mnemonics. The model's choices (log 24): hexadecimal digits of either
case, leading zeros, and the refusal as `badOperand` of an operand that is empty, negative or otherwise no such number,
of a missing one and of one too many. -/
def Obligations.AssemblerWritesTableWords : Prop :=
  (assemble "NOP" none = .ok 0x00000000#32 ∧ assemble "START" none = .ok 0x00000001#32 ∧
    assemble "MSGCLR" none = .ok 0x00000005#32) ∧
  (∀ (text : List Char) (a : Nat), parseOperand text = some a → a ≤ 65535 →
    assemble "SYNTH.UP" (some text) = .ok ((BitVec.ofNat 32 a <<< 16) ||| 0x02#32) ∧
    assemble "SYNTH.DN" (some text) = .ok ((BitVec.ofNat 32 a <<< 16) ||| 0x12#32) ∧
    assemble "GRAYF" (some text) = .ok ((BitVec.ofNat 32 a <<< 16) ||| 0x03#32) ∧
    assemble "GRAYI" (some text) = .ok ((BitVec.ofNat 32 a <<< 16) ||| 0x04#32)) ∧
  (∀ (m : String) (text : List Char) (a : Nat), parseOperand text = some a → 65535 < a →
    m = "SYNTH.UP" ∨ m = "SYNTH.DN" ∨ m = "GRAYF" ∨ m = "GRAYI" →
    assemble m (some text) = .error (.operandRange a)) ∧
  (∀ (m : String) (text : Option (List Char)),
    m ≠ "NOP" → m ≠ "START" → m ≠ "SYNTH.UP" → m ≠ "SYNTH.DN" → m ≠ "GRAYF" → m ≠ "GRAYI" → m ≠ "MSGCLR" →
    assemble m text = .error .unknownMnemonic) ∧
  -- how an operand is read: decimal digits, or hexadecimal digits (`true`: in upper case) after 0x
  (∀ ds : List Nat, ds ≠ [] → (∀ d ∈ ds, d < 10) →
    parseOperand (ds.map Nat.digitChar) = some (ds.foldl (fun a d => 10 * a + d) 0)) ∧
  (∀ ds : List (Nat × Bool), ds ≠ [] → (∀ d ∈ ds, d.1 < 16) →
    parseOperand ('0' :: 'x' :: ds.map fun d => if d.2 then (Nat.digitChar d.1).toUpper else Nat.digitChar d.1) =
      some (ds.foldl (fun a d => 16 * a + d.1) 0)) ∧
  -- what is no operand
  (parseOperand [] = none ∧ parseOperand ['0', 'x'] = none) ∧
  (∀ text : List Char, (∀ rest, text ≠ '0' :: 'x' :: rest) → (∃ c ∈ text, ¬('0' ≤ c ∧ c ≤ '9')) →
    parseOperand text = none) ∧
  (∀ rest : List Char,
    (∃ c ∈ rest, ¬(('0' ≤ c ∧ c ≤ '9') ∨ ('a' ≤ c ∧ c ≤ 'f') ∨ ('A' ≤ c ∧ c ≤ 'F'))) →
    parseOperand ('0' :: 'x' :: rest) = none) ∧
  (∀ m : String, m = "SYNTH.UP" ∨ m = "SYNTH.DN" ∨ m = "GRAYF" ∨ m = "GRAYI" →
    assemble m none = .error .badOperand ∧
    ∀ text : List Char, parseOperand text = none → assemble m (some text) = .error .badOperand) ∧
  (∀ (m : String) (text : List Char), m = "NOP" ∨ m = "START" ∨ m = "MSGCLR" →
    assemble m (some text) = .error .badOperand)

/-- R88 and R86: the fields of a composed MODE word and slot descriptor are the ones put in, and both words lie within
the bits their registers store. -/
def Obligations.ModeAndSlotWordsHoldTheirFields : Prop :=
  (∀ (sf : BitVec 5) (perm : BitVec 2) (enc : BitVec 1),
    modeSf (modeWord sf perm enc) = sf ∧ modePerm (modeWord sf perm enc) = perm ∧
    modeEnc (modeWord sf perm enc) = enc.getLsbD 0 ∧
    modeWord sf perm enc &&& 0x0000131F#32 = modeWord sf perm enc) ∧
  (∀ v : Half, slotKind (slotDescriptor (.sym v)) = 2 ∧ slotValue (slotDescriptor (.sym v)) = v ∧
    slotDescriptor (.sym v) &&& 0xFFFF0003#32 = slotDescriptor (.sym v))

/-! ### A step runs the decoded command -/

/-- R13, R100, R101: in the host's turn, a write to the word index of CMD runs the command its word decodes to, on the
state with that turn and that bus operation taken off. -/
def Obligations.StepRunsWrittenCommand : Prop :=
  ∀ (s : State) (a v : Word) (ts : List Agent) (ps : List HostOp),
    s.turns = .host :: ts → s.program = .write a 4 v :: ps → wordIndex a = 2 →
    step s = exec (decodeWord v) { s with turns := ts, program := ps } ∧
    ∀ i : Instr, i.wf = true → v = encode i → step s = exec i { s with turns := ts, program := ps }

/-- The model's own placing of a command (log 2): the very next step runs what the decoder reads from the table's word. -/
def Obligations.PlacedCommandRunsNext : Prop :=
  ∀ (s : State) (nbits w : Nat) (i : Instr), nbits ≤ 32 → decodeTableWord nbits w = some i →
    step (s.withFetchWord nbits w) = exec i s

/-! ### The commands -/

/-- R103: NOP changes nothing, in every state, so while ENG = RUN too; any word whose OP is 0 is a NOP. -/
def Obligations.NopChangesNothing : Prop :=
  ∀ s : State, exec .nop s = .next s ∧ ∀ w : Word, w.extractLsb' 0 4 = 0#4 → exec (decodeWord w) s = .next s

/-- R104: a reserved opcode sets STATUS.CMDREJ and nothing else, in every state and for every value of the other bits. -/
def Obligations.ReservedOpcodeOnlyRejects : Prop :=
  (∀ (s : State) (op : BitVec 4),
    exec (.reserved67 op) s = .next { s with cmdrej := true } ∧
    exec (.reserved8F op) s = .next { s with cmdrej := true }) ∧
  ∀ (s : State) (w : Word), 6 ≤ (w.extractLsb' 0 4).toNat → exec (decodeWord w) s = .next { s with cmdrej := true }

/-- R126: the word (n << 16) | 0x3 is GRAYF n, which puts n xor (n >> 1) into RESULT and changes nothing else, in every
state. -/
def Obligations.GrayfWritesForwardPermutation : Prop :=
  (∀ n : Half, decodeWord ((n.setWidth 32 <<< 16) ||| 0x3#32) = .grayf n) ∧
  (∀ (s : State) (n : Half), exec (.grayf n) s = .next { s with result := n ^^^ (n >>> 1) }) ∧
  (∀ s : State, exec (.grayf 0) s = .next { s with result := 0 }) ∧
  (∀ s : State, exec (.grayf 0xFFFF) s = .next { s with result := 0x8000 })

/-- R127: the word (n << 16) | 0x4 is GRAYI n, which puts the xor of every right shift of n into RESULT and changes
nothing else, in every state. -/
def Obligations.GrayiWritesInversePermutation : Prop :=
  (∀ n : Half, decodeWord ((n.setWidth 32 <<< 16) ||| 0x4#32) = .grayi n) ∧
  (∀ (s : State) (n : Half),
    exec (.grayi n) s =
      .next { s with result := (List.range 16).foldl (fun acc j => acc ^^^ (n >>> j)) 0#16 }) ∧
  (∀ s : State, exec (.grayi 0) s = .next { s with result := 0 }) ∧
  (∀ s : State, exec (.grayi 0x8000) s = .next { s with result := 0xFFFF }) ∧
  (∀ s : State, exec (.grayi 0xFFFF) s = .next { s with result := 0xAAAA })

/-- The laws R125 derives from R123 and R124, for every natural number: the two permutations undo each other, neither
sets a bit above the highest set bit, both fix 0, and g is not its own inverse. -/
def Obligations.GrayPermutationLaws : Prop :=
  (∀ n : Nat, grayInv (gray n) = n) ∧ (∀ n : Nat, gray (grayInv n) = n) ∧
  (∀ n w : Nat, 1 ≤ w → n < 2 ^ w → gray n < 2 ^ w ∧ grayInv n < 2 ^ w) ∧
  gray 0 = 0 ∧ grayInv 0 = 0 ∧ gray (gray 4) = 5

/-- R121: a word whose OP is 0x5 is MSGCLR, which empties the message and changes nothing else (MSGBUF's bytes, NSYM and
SYMBUF stay); while ENG = RUN it is rejected. -/
def Obligations.MsgclrEmptiesTheMessage : Prop :=
  (∀ w : Word, w.extractLsb' 0 4 = 5#4 → decodeWord w = .msgclr) ∧
  ∀ s : State,
    (s.eng = .idle → exec .msgclr s = .next { s with msglen := 0 }) ∧
    (s.eng = .run → exec .msgclr s = .next { s with cmdrej := true })

/-- R206: while BUSY = 1, START, SYNTH and MSGCLR are rejected with CMDREJ alone, and NOP, GRAYF, GRAYI run. -/
def Obligations.BusyRejectsStartSynthMsgclr : Prop :=
  ∀ (s : State) (n : Half), (statusWord s).getLsbD 0 = true →
    exec .start s = .next { s with cmdrej := true } ∧
    exec (.synthUp n) s = .next { s with cmdrej := true } ∧
    exec (.synthDn n) s = .next { s with cmdrej := true } ∧
    exec .msgclr s = .next { s with cmdrej := true } ∧
    exec .nop s = .next s ∧
    exec (.grayf n) s = .next { s with result := n ^^^ (n >>> 1) } ∧
    ∃ r : Half, exec (.grayi n) s = .next { s with result := r }

/-- R107, R153, R165: with a legal configuration and ARG below 2^SF, SYNTH is accepted: N is latched, DONE cleared, ENG
is RUN, one segment of ARG in the command's direction stands at its sample 0; nothing else changes. -/
def Obligations.SynthAccepted : Prop :=
  ∀ (s : State) (arg : Half), s.eng = .idle → ConfigOk s → arg.toNat < 2 ^ s.sf →
    exec (.synthUp arg) s = .next
      { s with
        asym := arg, adir := .up, nsamp := rhe (s.fs.toNat * 2 ^ s.sf) s.bw.toNat, done := false, eng := .run,
        opk := .one, nseg := 1, seg := 0, edone := false, csym := arg, cdir := .up,
        acc := s.fs.toNat * arg.toNat, phi := 0, k := 0 } ∧
    exec (.synthDn arg) s = .next
      { s with
        asym := arg, adir := .down, nsamp := rhe (s.fs.toNat * 2 ^ s.sf) s.bw.toNat, done := false, eng := .run,
        opk := .one, nseg := 1, seg := 0, edone := false, csym := arg, cdir := .down,
        acc := s.fs.toNat * arg.toNat, phi := 0, k := 0 }

/-- R153, R182: with a legal configuration and ARG of 2^SF or more, SYNTH raises 0x23 with value ARG. -/
def Obligations.SynthArgumentError : Prop :=
  ∀ (s : State) (arg : Half), s.eng = .idle → ConfigOk s → 2 ^ s.sf ≤ arg.toNat →
    exec (.synthUp arg) s = .next (raisedAs 0x23 0 (arg.setWidth 32) s) ∧
    exec (.synthDn arg) s = .next (raisedAs 0x23 0 (arg.setWidth 32) s)

/-- R105: CheckConfig() of START and SYNTH raises SF low, SF high, BW, FS, N = 0 in that order with what R182 records,
and with all five passed the command goes on with N; F0 stands in no condition. -/
def Obligations.ConfigurationErrorsInOrder : Prop :=
  ∀ (s : State) (i : Instr), s.eng = .idle → (i = .start ∨ ∃ a, i = .synthUp a ∨ i = .synthDn a) →
    (s.sf < 1 → exec i s = .next (raisedAs 0x11 0 (BitVec.ofNat 32 s.sf) s)) ∧
    (1 ≤ s.sf → s.par.sfMax < s.sf → exec i s = .next (raisedAs 0x15 0 (BitVec.ofNat 32 s.sf) s)) ∧
    (1 ≤ s.sf → s.sf ≤ s.par.sfMax → s.bw = 0 → exec i s = .next (raisedAs 0x12 0 0 s)) ∧
    (1 ≤ s.sf → s.sf ≤ s.par.sfMax → s.bw ≠ 0 → s.fs = 0 → exec i s = .next (raisedAs 0x13 0 0 s)) ∧
    (1 ≤ s.sf → s.sf ≤ s.par.sfMax → s.bw ≠ 0 → s.fs ≠ 0 → rhe (s.fs.toNat * 2 ^ s.sf) s.bw.toNat = 0 →
      exec i s = .next (raisedAs 0x14 0 0 s)) ∧
    (1 ≤ s.sf → s.sf ≤ s.par.sfMax → s.bw ≠ 0 → s.fs ≠ 0 → rhe (s.fs.toNat * 2 ^ s.sf) s.bw.toNat ≠ 0 →
      ∃ t, exec i s = .next t ∧
        (t.nsamp = rhe (s.fs.toNat * 2 ^ s.sf) s.bw.toNat ∧ t.eng = .run ∨
          t.eng = .idle ∧ t.err = true ∧
            t.errcode ∈ [0x16#8, 0x17#8, 0x18#8, 0x21#8, 0x22#8, 0x23#8]))

/-- R161, R131, R182: after the configuration, START raises PERM = 3, PLEN > PMAX, the lowest slot of reserved KIND, the
lowest preamble literal of 2^SF or more and the first message symbol of 2^SF or more, in that order. -/
def Obligations.StartChecksInOrder : Prop :=
  ∀ s : State, s.eng = .idle → ConfigOk s →
    (modePerm s.mode = 3 → exec .start s = .next (raisedAs 0x16 0 3 s)) ∧
    (modePerm s.mode ≠ 3 → s.par.pmax < s.plen.toNat →
      exec .start s = .next (raisedAs 0x17 0 (s.plen.setWidth 32) s)) ∧
    (modePerm s.mode ≠ 3 → s.plen.toNat ≤ s.par.pmax →
      ∀ j < s.plen.toNat, slotKind (s.slotWord j) = 3 → (∀ i < j, slotKind (s.slotWord i) ≠ 3) →
        exec .start s = .next (raisedAs 0x18 (BitVec.ofNat 17 j) 3 s)) ∧
    (MaskOk s →
      ∀ j < s.plen.toNat, slotKind (s.slotWord j) = 2 → 2 ^ s.sf ≤ (slotValue (s.slotWord j)).toNat →
        (∀ i < j, slotKind (s.slotWord i) = 2 → (slotValue (s.slotWord i)).toNat < 2 ^ s.sf) →
        exec .start s = .next (raisedAs 0x22 (BitVec.ofNat 17 j) ((slotValue (s.slotWord j)).setWidth 32) s)) ∧
    (MaskOk s → ValuesOk s → ∀ i v, s.symbols[i]? = some v → 2 ^ s.sf ≤ v →
      (∀ j < i, ∀ u, s.symbols[j]? = some u → u < 2 ^ s.sf) →
      exec .start s = .next (raisedAs 0x21 (BitVec.ofNat 17 i) (BitVec.ofNat 32 v) s))

/-- R107, R132, R161, R162, R163, R165: with every check passed and at least one segment, START is accepted: N and the
symbols are latched, NSEG is PLEN + NSYM, and segment 0 stands at its sample 0. SYMBUF's other entries and everything
else is unchanged. R46 says that an accepted START writes ASYM and ADIR too, and no rule says with what: the model's
choice (log 22) is that they hold free values, of which this states nothing (`free` counts them). -/
def Obligations.StartAccepted : Prop :=
  ∀ s : State, s.par.admissible → s.msglen.toNat ≤ s.par.msgMax → Memory.wf s.symbuf →
    s.eng = .idle → ConfigOk s → MaskOk s → ValuesOk s → SymbolsOk s →
    0 < s.plen.toNat + s.symbols.length →
    ∃ t, exec .start s = .next t ∧
      t = { s with
            nsamp := rhe (s.fs.toNat * 2 ^ s.sf) s.bw.toNat, done := false, eng := .run, opk := .pkt,
            symbuf := t.symbuf, nsym := t.nsym, nseg := t.nseg, seg := 0, edone := false,
            csym := t.csym, cdir := t.cdir, acc := s.fs.toNat * t.csym.toNat, phi := 0, k := 0,
            asym := t.asym, adir := t.adir, free := t.free } ∧
      t.nsym.toNat = s.symbols.length ∧
      t.nseg.toNat = s.plen.toNat + s.symbols.length ∧
      (∀ i v, s.symbols[i]? = some v → (Memory.read t.symbuf i).toNat = v) ∧
      (∀ i, s.symbols.length ≤ i → Memory.read t.symbuf i = Memory.read s.symbuf i) ∧
      (s.plen = 0 → s.symbols[0]? = some t.csym.toNat ∧ t.cdir = .up) ∧
      (s.plen ≠ 0 → slotKind (s.slotWord 0) = 0 → t.csym = 0 ∧ t.cdir = .up) ∧
      (s.plen ≠ 0 → slotKind (s.slotWord 0) = 1 → t.csym = 0 ∧ t.cdir = .down) ∧
      (s.plen ≠ 0 → slotKind (s.slotWord 0) = 2 → t.csym = slotValue (s.slotWord 0) ∧ t.cdir = .down)

/-- What R170 and R133 derive: a START with an empty mask and an empty message is accepted with no segment, and the
engine's next turn completes it; no record is delivered. R46 says that it writes CSYM, CDIR, S, PHI, K, ASYM and ADIR
too, and no rule says with what: the model's choice (log 22) is that they hold free values, of which this states only the
ranges R36 and R37 give S, PHI and K. -/
def Obligations.StartWithoutSegmentsCompletes : Prop :=
  ∀ s : State, s.eng = .idle → ConfigOk s → modePerm s.mode ≠ 3 → s.plen = 0 → s.msglen = 0 → s.outq = [] →
    ∃ t, exec .start s = .next t ∧
      t = { s with
            nsamp := rhe (s.fs.toNat * 2 ^ s.sf) s.bw.toNat, done := false, eng := .run, opk := .pkt, nsym := 0,
            nseg := 0, seg := 0, edone := true,
            csym := t.csym, cdir := t.cdir, acc := t.acc, phi := t.phi, k := t.k,
            asym := t.asym, adir := t.adir, free := t.free } ∧
      t.acc < modulusM s.chirp ∧ t.phi < modulusD s.chirp ∧ t.k < t.nsamp ∧
      ∀ ts : List Agent, step { t with turns := .engine :: ts } =
        .next { t with turns := ts, eng := .idle, done := true }

/-- R85: no encoding traps or is without behaviour (every word, in every state, leads to a next state), and a reserved
opcode is rejected whatever its other bits. -/
def Obligations.NoCommandWordStops : Prop :=
  ∀ (s : State) (w : Word),
    (∃ t, exec (decodeWord w) s = .next t) ∧
    (6 ≤ (w.extractLsb' 0 4).toNat → exec (decodeWord w) s = .next { s with cmdrej := true })

/-- R101, R107, R184, R187 for START and SYNTH: rejected (CMDREJ alone), raised (the error record and ERR alone) or
accepted (ENG = RUN, DONE = 0, N latched; ERR, CMDREJ, WIGN, MSGOVF, the error record, the configuration, the mask, the
message and OUTQ untouched). -/
def Obligations.StartAndSynthHaveThreeOutcomes : Prop :=
  ∀ (s t : State) (i : Instr), (i = .start ∨ ∃ a, i = .synthUp a ∨ i = .synthDn a) → exec i s = .next t →
    (s.eng = .run ∧ t = { s with cmdrej := true }) ∨
    (s.eng = .idle ∧ ∃ code idx val, t = raisedAs code idx val s ∧
      code ∈ [0x11#8, 0x12#8, 0x13#8, 0x14#8, 0x15#8, 0x16#8, 0x17#8, 0x18#8, 0x21#8, 0x22#8, 0x23#8]) ∨
    (s.eng = .idle ∧ ConfigOk s ∧ t.eng = .run ∧ t.done = false ∧ t.nsamp = rhe (s.fs.toNat * 2 ^ s.sf) s.bw.toNat ∧
      t = { s with
            nsamp := t.nsamp, done := false, eng := .run, opk := t.opk, symbuf := t.symbuf, nsym := t.nsym,
            nseg := t.nseg, seg := 0, edone := t.edone, csym := t.csym, cdir := t.cdir, asym := t.asym,
            adir := t.adir, acc := t.acc, phi := t.phi, k := t.k, free := t.free })

/-- What R185 derives: a START or SYNTH that raised, issued again with nothing changed, raises the same error again. -/
def Obligations.RaisedCommandRaisesAgain : Prop :=
  ∀ (s t : State) (i : Instr), (i = .start ∨ ∃ a, i = .synthUp a ∨ i = .synthDn a) →
    s.eng = .idle → exec i s = .next t → t.eng = .idle → exec i t = .next t

/-! ### The register port -/

/-- R65, R69, R94, R102: the host's turn makes the next bus access of its program: a read notes the register's value and
leaves the block as it was, a write to a register acts as `memWrite`, a POLL line reads and stays until its value is
read. -/
def Obligations.HostTurnIsOneBusAccess : Prop :=
  ∀ (s : State) (a : Word) (ts : List Agent) (ps : List HostOp), s.turns = .host :: ts →
    (s.program = .read a 4 :: ps →
      step s = .next { s with turns := ts, program := ps, reads := memRead s a :: s.reads }) ∧
    (∀ v, s.program = .write a 4 v :: ps → step s = memWrite a v { s with turns := ts, program := ps }) ∧
    (∀ m v, s.program = .poll a m v :: ps → memRead s a &&& m = v →
      step s = .next { s with turns := ts, program := ps, reads := memRead s a :: s.reads }) ∧
    (∀ m v, s.program = .poll a m v :: ps → memRead s a &&& m ≠ v →
      step s = .next { s with turns := ts, reads := memRead s a :: s.reads })

/-- R61: a bus operation whose size is not 4 is refused; addr[1:0] is ignored; no access of size 4 traps. -/
def Obligations.EveryAccessIsAWordAccess : Prop :=
  (∀ (s : State) (a v : Word) (n : Nat) (ts : List Agent) (ps : List HostOp), n ≠ 4 → s.turns = .host :: ts →
    (s.program = .read a n :: ps → step s = .refused (.busSize n)) ∧
    (s.program = .write a n v :: ps → step s = .refused (.busSize n))) ∧
  (∀ (s : State) (a b v : Word), a.toNat / 4 = b.toNat / 4 →
    memRead s a = memRead s b ∧ memWrite a v s = memWrite b v s) ∧
  (∀ (s : State) (a v : Word), ∃ t, memWrite a v s = .next t)

/-- R63, R60: each register stands at its offset, with every offset of a mask slot below PMAX, and no other offset of
the window holds one. R102 with R23 to R38 and R41, in every state: a read at each offset returns that register's field,
zero-extended (NSAMP, SYMDATA and the WO registers have statements of their own). -/
def Obligations.RegisterMap : Prop :=
  (∀ p : Config.Params, p.admissible →
    (∀ r : Reg, (∀ i, r = .pmask i → i < p.pmax) → regAt p (BitVec.ofNat 32 (regOffset r)) = some r) ∧
    (∀ o < 512, o % 4 = 0 → (∀ r : Reg, (∀ i, r = .pmask i → i < p.pmax) → regOffset r ≠ o) →
      regAt p (BitVec.ofNat 32 o) = none)) ∧
  ∀ s : State,
    memRead s 0x000 = s.par.idValue ∧
    ((memRead s 0x004).getLsbD 0 = decide (s.eng = .run) ∧ (memRead s 0x004).getLsbD 1 = s.done ∧
      (memRead s 0x004).getLsbD 2 = s.err ∧ (memRead s 0x004).getLsbD 3 = s.cmdrej ∧
      (memRead s 0x004).getLsbD 4 = s.wign ∧ (memRead s 0x004).getLsbD 5 = s.msgovf ∧
      ∀ b, 6 ≤ b → (memRead s 0x004).getLsbD b = false) ∧
    memRead s 0x00C = s.irqen ∧
    memRead s 0x010 = s.fs ∧
    memRead s 0x014 = s.bw ∧
    memRead s 0x018 = s.f0 ∧
    memRead s 0x01C = s.mode ∧
    memRead s 0x020 = s.plen.setWidth 32 ∧
    memRead s 0x02C = s.msglen.setWidth 32 ∧
    memRead s 0x034 = s.nsym.setWidth 32 ∧
    memRead s 0x038 = s.result.setWidth 32 ∧
    memRead s 0x03C = s.errcode.setWidth 32 ∧
    memRead s 0x040 = s.erridx.setWidth 32 ∧
    memRead s 0x044 = s.errval ∧
    memRead s 0x048 = s.nseg.setWidth 32 ∧
    memRead s 0x04C = s.seg.setWidth 32 ∧
    memRead s 0x050 = s.symidx.setWidth 32 ∧
    (s.par.admissible → ∀ i d, i < s.par.pmax → s.pmask[i]? = some d → memRead s (BitVec.ofNat 32 (0x100 + 4 * i)) = d)

/-- R64: reserved offsets read 0 and ignore writes; CMD and MSGDATA read 0; an RO register ignores a write and sets no
flag; RES bits read 0 whatever was written. -/
def Obligations.AccessesWithNoEffect : Prop :=
  ∀ s : State, s.par.admissible → s.pmask.length = s.par.pmax →
    (∀ j, (22 ≤ j ∧ j < 64) ∨ (64 + s.par.pmax ≤ j ∧ j < 128) →
      memRead s (BitVec.ofNat 32 (4 * j)) = 0 ∧ ∀ v, memWrite (BitVec.ofNat 32 (4 * j)) v s = .next s) ∧
    (memRead s 0x008 = 0 ∧ memRead s 0x030 = 0) ∧
    (∀ o ∈ [0x000, 0x024, 0x028, 0x02C, 0x034, 0x038, 0x03C, 0x040, 0x044, 0x048, 0x04C, 0x054],
      ∀ v, memWrite (BitVec.ofNat 32 o) v s = .next s) ∧
    (∀ v, ∃ t, memWrite 0x004 v s = .next t ∧ memRead t 0x004 &&& ~~~0x0000003F#32 = 0) ∧
    (∀ v, ∃ t, memWrite 0x00C v s = .next t ∧ memRead t 0x00C &&& ~~~0x0000003E#32 = 0) ∧
    (∀ v, ∃ t, memWrite 0x050 v s = .next t ∧ memRead t 0x050 &&& ~~~0x0000FFFF#32 = 0) ∧
    (s.eng = .idle → ∀ v, ∃ t, memWrite 0x01C v s = .next t ∧ memRead t 0x01C &&& ~~~0x0000131F#32 = 0) ∧
    (s.eng = .idle → ∀ v, ∃ t, memWrite 0x020 v s = .next t ∧ memRead t 0x020 &&& ~~~0x000000FF#32 = 0) ∧
    (s.eng = .idle → ∀ i < s.par.pmax, ∀ v, ∃ t, memWrite (BitVec.ofNat 32 (0x100 + 4 * i)) v s = .next t ∧
      memRead t (BitVec.ofNat 32 (0x100 + 4 * i)) &&& ~~~0xFFFF0003#32 = 0)

/-- R110 to R115: what a write to IRQEN and SYMIDX stores at any time, and to FS, BW, F0, MODE, PLEN, PMASK[i] while
ENG = IDLE; nothing else changes, and each of them reads back what was written within its fields (R22). -/
def Obligations.RegisterStores : Prop :=
  ∀ (s : State) (v : Word), s.par.admissible → s.pmask.length = s.par.pmax →
    memWrite 0x00C v s = .next { s with irqen := v &&& 0x0000003E#32 } ∧
    memWrite 0x050 v s = .next { s with symidx := (v &&& 0x0000FFFF#32).setWidth 16 } ∧
    (∃ t, memWrite 0x00C v s = .next t ∧ memRead t 0x00C = v &&& 0x0000003E#32) ∧
    (∃ t, memWrite 0x050 v s = .next t ∧ memRead t 0x050 = v &&& 0x0000FFFF#32) ∧
    (s.eng = .idle →
      (∃ t, memWrite 0x010 v s = .next t ∧ memRead t 0x010 = v) ∧
      (∃ t, memWrite 0x014 v s = .next t ∧ memRead t 0x014 = v) ∧
      (∃ t, memWrite 0x018 v s = .next t ∧ memRead t 0x018 = v) ∧
      (∃ t, memWrite 0x01C v s = .next t ∧ memRead t 0x01C = v &&& 0x0000131F#32) ∧
      (∃ t, memWrite 0x020 v s = .next t ∧ memRead t 0x020 = v &&& 0x000000FF#32) ∧
      memWrite 0x010 v s = .next { s with fs := v } ∧
      memWrite 0x014 v s = .next { s with bw := v } ∧
      memWrite 0x018 v s = .next { s with f0 := v } ∧
      memWrite 0x01C v s = .next { s with mode := v &&& 0x0000131F#32 } ∧
      memWrite 0x020 v s = .next { s with plen := (v &&& 0x000000FF#32).setWidth 8 } ∧
      ∀ i < s.par.pmax, ∃ t, memWrite (BitVec.ofNat 32 (0x100 + 4 * i)) v s = .next t ∧
        t = { s with pmask := t.pmask } ∧
        memRead t (BitVec.ofNat 32 (0x100 + 4 * i)) = v &&& 0xFFFF0003#32 ∧
        ∀ j, j ≠ i → t.slotWord j = s.slotWord j)

/-- R108: while ENG = RUN a write to FS, BW, F0, MODE, PLEN, PMASK[i] or MSGDATA only sets WIGN, and START, SYNTH,
MSGCLR are rejected; STATUS, IRQEN and SYMIDX are never locked. -/
def Obligations.WriteLockDuringRun : Prop :=
  ∀ (s : State) (v : Word), s.par.admissible → s.eng = .run →
    (∀ o ∈ [0x010, 0x014, 0x018, 0x01C, 0x020, 0x030],
      memWrite (BitVec.ofNat 32 o) v s = .next { s with wign := true }) ∧
    (∀ i < s.par.pmax, memWrite (BitVec.ofNat 32 (0x100 + 4 * i)) v s = .next { s with wign := true }) ∧
    (∀ n : Half, ∀ i ∈ [Instr.start, .synthUp n, .synthDn n, .msgclr],
      memWrite 0x008 (encode i) s = .next { s with cmdrej := true }) ∧
    memWrite 0x004 v s = .next
      { s with
        done := s.done && !v.getLsbD 1, err := s.err && !v.getLsbD 2, cmdrej := s.cmdrej && !v.getLsbD 3
        wign := s.wign && !v.getLsbD 4, msgovf := s.msgovf && !v.getLsbD 5 } ∧
    memWrite 0x00C v s = .next { s with irqen := v &&& 0x0000003E#32 } ∧
    memWrite 0x050 v s = .next { s with symidx := v.setWidth 16 }

/-- R109: a write to STATUS clears the bits 1 to 5 written as 1; BUSY and the RES bits are unaffected, and nothing but
the five flags changes (R186: the error record stays). -/
def Obligations.StatusWriteOneToClear : Prop :=
  ∀ (s : State) (v : Word), ∃ t, memWrite 0x004 v s = .next t ∧
    t = { s with done := t.done, err := t.err, cmdrej := t.cmdrej, wign := t.wign, msgovf := t.msgovf } ∧
    (∀ b, 1 ≤ b → b ≤ 5 →
      (memRead t 0x004).getLsbD b = ((memRead s 0x004).getLsbD b && !v.getLsbD b)) ∧
    (∀ b, b = 0 ∨ 6 ≤ b → (memRead t 0x004).getLsbD b = (memRead s 0x004).getLsbD b) ∧
    (v = 0x0000003E#32 → ∀ b, 1 ≤ b → (memRead t 0x004).getLsbD b = false)

/-- R189: irq is the or over b in 1 to 5 of STATUS[b] and IRQEN[b], as the host reads the two registers. -/
def Obligations.IrqIsEnabledStatus : Prop :=
  ∀ s : State, s.irq = true ↔
    ∃ b, 1 ≤ b ∧ b ≤ 5 ∧ (memRead s 0x004).getLsbD b = true ∧ (memRead s 0x00C).getLsbD b = true

/-- R120, R122: a MSGDATA push is ignored with WIGN while ENG = RUN, dropped with MSGOVF in a full buffer, and otherwise
appends v[7:0] at MSGLEN; every other byte of MSGBUF and all else is unchanged. -/
def Obligations.MessagePush : Prop :=
  ∀ (s : State) (v : Word),
    (s.eng = .run → memWrite 0x030 v s = .next { s with wign := true }) ∧
    (s.eng = .idle → s.msglen.toNat = s.par.msgMax → memWrite 0x030 v s = .next { s with msgovf := true }) ∧
    (s.eng = .idle → s.par.admissible → s.msglen.toNat < s.par.msgMax → Memory.wf s.msgbuf →
      ∃ t, memWrite 0x030 v s = .next t ∧
        t = { s with msgbuf := t.msgbuf, msglen := s.msglen + 1 } ∧
        t.msglen.toNat = s.msglen.toNat + 1 ∧
        Memory.read t.msgbuf s.msglen.toNat = v.setWidth 8 ∧
        (∀ a, a ≠ s.msglen.toNat → Memory.read t.msgbuf a = Memory.read s.msgbuf a) ∧
        t.message = s.message ++ [v.setWidth 8])

/-- R39: SYMIDX is written at any time, and SYMDATA reads SYMBUF[SYMIDX] below NSYM and 0 from NSYM on. -/
def Obligations.SymbolReadback : Prop :=
  ∀ (s : State) (v : Word),
    memWrite 0x050 v s = .next { s with symidx := v.setWidth 16 } ∧
    memRead s 0x050 = s.symidx.setWidth 32 ∧
    (s.symidx.toNat < s.nsym.toNat →
      memRead s 0x054 = (Memory.read s.symbuf s.symidx.toNat).setWidth 32) ∧
    (s.nsym.toNat ≤ s.symidx.toNat → memRead s 0x054 = 0)

/-- R31: NSAMP_LO and NSAMP_HI together hold N, and NSAMP_HI's bits above NW - 33 read 0. -/
def Obligations.SegmentLengthReadback : Prop :=
  ∀ s : State, s.par.admissible → s.nsamp < 2 ^ s.par.nw →
    (memRead s 0x024).toNat + 2 ^ 32 * (memRead s 0x028).toNat = s.nsamp ∧
    (memRead s 0x028).toNat < 2 ^ s.par.sfMax

/-! ### The symbol encoder -/

/-- R128, R130: in raw byte mode symbol i is byte i, permuted as PERM says, and there are MSGLEN of them. -/
def Obligations.RawModeSymbols : Prop :=
  ∀ s : State, modeEnc s.mode = false →
    s.symbols.length = s.msglen.toNat ∧
    ∀ i < s.msglen.toNat,
      (modePerm s.mode = 0 → s.symbols[i]? = some (Memory.read s.msgbuf i).toNat) ∧
      (modePerm s.mode = 1 →
        s.symbols[i]? = some (Memory.read s.msgbuf i ^^^ (Memory.read s.msgbuf i >>> 1)).toNat) ∧
      (modePerm s.mode = 2 → ∃ y, s.symbols[i]? = some y ∧ y ^^^ (y >>> 1) = (Memory.read s.msgbuf i).toNat)

/-- R129, R130: in bit-partition mode the pre-permutation symbols are the groups of SF bits of the message read byte 0
first and most significant bit first, ceil(8L / SF) of them, the last padded with zeros, and the symbols are these,
permuted as PERM says. -/
def Obligations.BitPartitionSymbols : Prop :=
  ∀ s : State, modeEnc s.mode = true → 1 ≤ s.sf →
    let pre := bitSymbols s.message s.sf
    8 * s.msglen.toNat ≤ pre.length * s.sf ∧
    pre.length * s.sf < 8 * s.msglen.toNat + s.sf ∧
    s.symbols.length = pre.length ∧
    ∀ i v, pre[i]? = some v → v < 2 ^ s.sf ∧
      (∀ t < s.sf, v.testBit (s.sf - 1 - t) =
        (decide (i * s.sf + t < 8 * s.msglen.toNat) &&
          (Memory.read s.msgbuf ((i * s.sf + t) / 8)).getLsbD (7 - (i * s.sf + t) % 8))) ∧
      (modePerm s.mode = 0 → s.symbols[i]? = some v) ∧
      (modePerm s.mode = 1 → s.symbols[i]? = some (v ^^^ (v >>> 1))) ∧
      (modePerm s.mode = 2 → ∃ y, s.symbols[i]? = some y ∧ y ^^^ (y >>> 1) = v)

/-- What R131 derives: the range check can fail only in raw byte mode with SF below 8, and a value fails it after the
permutation exactly when it fails before. -/
def Obligations.SymbolRangeConsequences : Prop :=
  (∀ s : State, 1 ≤ s.sf → modePerm s.mode ≠ 3 → modeEnc s.mode = true ∨ 8 ≤ s.sf → SymbolsOk s) ∧
  (∀ (perm : BitVec 2) (b sf : Nat), perm ≠ 3 → (permute perm b < 2 ^ sf ↔ b < 2 ^ sf))

/-! ### The arithmetic of a segment -/

/-- R9: rhe(p, q) is the integer nearest to p / q, and the even one of two that are equally near. -/
def Obligations.RoundHalfToEven : Prop :=
  ∀ p q : Nat, 0 < q →
    2 * (rhe p q * q) ≤ 2 * p + q ∧ 2 * p ≤ 2 * (rhe p q * q) + q ∧
    (2 * (rhe p q * q) = 2 * p + q ∨ 2 * p = 2 * (rhe p q * q) + q → rhe p q % 2 = 0)

/-- What R106 derives of N: when it is 0, when it is 1, and that it fits NW bits in every legal configuration. -/
def Obligations.SegmentLengthConsequences : Prop :=
  (∀ c : ChirpConfig, 0 < c.bw →
    (segmentLength c = 0 ↔ 2 * (c.fs * 2 ^ c.sf) ≤ c.bw) ∧
    (segmentLength c = 1 ↔ c.bw < 2 * (c.fs * 2 ^ c.sf) ∧ 2 * (c.fs * 2 ^ c.sf) < 3 * c.bw)) ∧
  (∀ s : State, ConfigOk s → 1 ≤ segmentLength s.chirp ∧ segmentLength s.chirp < 2 ^ s.par.nw)

/-- What R149 derives: with N of 2 or more, every S_k is below M and the source's single subtraction gives the same
S_{k+1} as the reduction modulo M. -/
def Obligations.ShiftWrapsBySubtraction : Prop :=
  ∀ (c : ChirpConfig) (sym : Nat) (dir : Dir), 0 < c.fs → 0 < c.bw → 2 ≤ segmentLength c → sym < 2 ^ c.sf →
    ∀ k, (chirpAt c sym dir k).1 < modulusM c ∧
      (chirpAt c sym dir (k + 1)).1 =
        if modulusM c ≤ (chirpAt c sym dir k).1 + c.bw then (chirpAt c sym dir k).1 + c.bw - modulusM c
        else (chirpAt c sym dir k).1 + c.bw

/-- What R151 derives, scaled by M: before the offset an UP frequency lies in [0, BW), a DOWN frequency in (0, BW], and
it is BW exactly where S_k = 0; the offset adds F0 to either. -/
def Obligations.FrequencyRanges : Prop :=
  ∀ (c : ChirpConfig) (acc : Nat), 0 < c.fs → 0 < c.bw → acc < modulusM c →
    (∃ f, freqScaled c .up acc = f + c.f0 * modulusM c ∧ f < c.bw * modulusM c ∧ f = c.bw * acc) ∧
    (∃ f, freqScaled c .down acc = f + c.f0 * modulusM c ∧ 0 < f ∧ f ≤ c.bw * modulusM c ∧
      (f = c.bw * modulusM c ↔ acc = 0))

/-- What R154 derives: as long as the shift has not wrapped, S_j and PHI_k are the closed forms. -/
def Obligations.ChirpClosedForms : Prop :=
  ∀ (c : ChirpConfig) (sym k : Nat), 0 < c.fs →
    ((c.fs * sym : Nat) : Int) + c.bw * ((k : Int) - 1) < modulusM c →
    (∀ (dir : Dir), ∀ j < k, (chirpAt c sym dir j).1 = c.fs * sym + c.bw * j) ∧
    (chirpAt c sym .up k).2 =
      (k * (c.bw * (c.fs * sym) + c.f0 * modulusM c) + c.bw ^ 2 * (k * (k - 1) / 2)) % modulusD c ∧
    (((chirpAt c sym .down k).2 : Nat) : Int) =
      ((k : Int) * (c.bw * ((modulusM c : Int) - c.fs * sym) + c.f0 * modulusM c) -
        c.bw ^ 2 * ((k * (k - 1) / 2 : Nat) : Int)) % (modulusD c : Int)

/-- R66, R89, R40, R146 property 2: `s_valid` is 1 exactly while OUTQ is non-empty. From a state of the invariants the
head of OUTQ is a record of the operation, and the stream port carries it whole: `s_phase` of PHW bits is PHASE,
`s_i` and `s_q`, read as two's complement words of OUT_W bits, are I and Q, and `s_first`, `s_last` are FIRST and LAST.
I and Q of every sample lie in [-A, A] and fit their words, for every width. -/
def Obligations.AmplitudesFitTheirWords : Prop :=
  (∀ s : State, (s.streamValid = true ↔ s.outq ≠ []) ∧ (s.streamPort = none ↔ s.outq = [])) ∧
  (∀ (s : State) (r : Sample) (rest : List Sample), Inv s → StreamInv s → s.outq = r :: rest →
    r ∈ operationRecords s ∧
    ∃ phase i q first last, s.streamPort = some (phase, i, q, first, last) ∧
      phase.toNat = r.phase ∧ i.toInt = r.i ∧ q.toInt = r.q ∧ first = r.first ∧ last = r.last) ∧
  (∀ (w : Nat) (c : ChirpConfig) (phi : Nat) (first last : Bool), 2 ≤ w →
    let r := sampleOf w c phi first last
    (BitVec.ofInt w r.i).toInt = r.i ∧ (BitVec.ofInt w r.q).toInt = r.q ∧
    -((2 : Int) ^ (w - 1) - 1) ≤ r.i ∧ r.i ≤ 2 ^ (w - 1) - 1 ∧
    -((2 : Int) ^ (w - 1) - 1) ≤ r.q ∧ r.q ≤ 2 ^ (w - 1) - 1)

/-- What R152 derives, for every AMP_I and AMP_Q within EPS of cos and sin at the machine's OUT_W (R146): of every
record of a running operation, and of the record each emit step pushes, the phase word is below D, I / A and Q / A are
within EPS of cos and sin of its angle, and the square of its magnitude is within 4 EPS + 2 EPS^2 of 1. -/
def Obligations.SampleMagnitudeNearOne : Prop :=
  ∀ (s : State) (eps : ℝ), Inv s → s.eng = .run → AmpAccurate s.par.outW eps →
    let a : ℝ := (Config.fullScale s.par.outW : ℝ)
    let d := modulusD s.chirp
    let good : Sample → Prop := fun r =>
      r.phase < d ∧
      |(r.i : ℝ) / a - Real.cos (2 * Real.pi * r.phase / d)| ≤ eps ∧
      |(r.q : ℝ) / a - Real.sin (2 * Real.pi * r.phase / d)| ≤ eps ∧
      |((r.i : ℝ) / a) ^ 2 + ((r.q : ℝ) / a) ^ 2 - 1| ≤ 4 * eps + 2 * eps ^ 2
    (∀ r ∈ operationRecords s, good r) ∧
    (∀ ts, s.turns = .engine :: ts → s.edone = false → s.outq.length < s.par.outDepth →
      ∃ t r, step s = .next t ∧ t.outq = s.outq ++ [r] ∧ good r)

/-! ### Engine, sink and reset -/

/-- R162, R163: Slot(j) of a packet for each KIND and for a payload segment, Slot(0) of a SYNTH; there is no slot of
reserved KIND. -/
def Obligations.SlotMapping : Prop :=
  ∀ (s : State) (j : Nat),
    (s.opk = .pkt → j < s.plen.toNat →
      (slotKind (s.slotWord j) = 0 → slotOf s j = some (0, .up)) ∧
      (slotKind (s.slotWord j) = 1 → slotOf s j = some (0, .down)) ∧
      (slotKind (s.slotWord j) = 2 → slotOf s j = some (slotValue (s.slotWord j), .down)) ∧
      (slotKind (s.slotWord j) = 3 → slotOf s j = none)) ∧
    (s.opk = .pkt → s.plen.toNat ≤ j → j < s.nseg.toNat →
      slotOf s j = some (Memory.read s.symbuf (j - s.plen.toNat), .up)) ∧
    (s.opk = .one → slotOf s 0 = some (s.asym, s.adir))

/-- R166, R167: the engine's turn while the emit step is enabled: the record pushed, the recurrences of S and PHI, and at
the end of a segment the next slot loaded or, after the last one, EDONE set and K back at 0; nothing else changes. That K is back at 0 after the last segment too is the model's reading
(log 16, DEDUCED): R36 says that K returns to 0 at each segment boundary, and R167's pseudocode lists no write of it there.
With a full OUTQ the engine holds and no
flag is set, and otherwise it pushes nothing. (FS is not 0 during a run, see the machine's invariant.) -/
def Obligations.EngineEmits : Prop :=
  (∀ (s : State) (ts : List Agent), s.turns = .engine :: ts →
    (s.eng = .run → s.edone = false → s.par.outDepth ≤ s.outq.length → step s = .next { s with turns := ts }) ∧
    (s.eng = .idle ∨ s.edone = true → ∃ t, step s = .next t ∧ t.outq = s.outq)) ∧
  ∀ (s : State) (ts : List Agent), s.turns = .engine :: ts → s.eng = .run → s.edone = false →
    s.outq.length < s.par.outDepth → s.fs ≠ 0 →
    let m := s.fs.toNat * 2 ^ s.sf
    let d := s.fs.toNat * m
    let fm := (match s.cdir with | .up => s.bw.toNat * s.acc | .down => s.bw.toNat * (m - s.acc)) + s.f0.toNat * m
    let r : Sample :=
      { phase := s.phi, i := Config.ampI s.par.outW s.phi d, q := Config.ampQ s.par.outW s.phi d
        first := decide (s.k = 0), last := decide (s.k + 1 = s.nsamp ∧ s.seg.toNat + 1 = s.nseg.toNat) }
    (s.k + 1 ≠ s.nsamp →
      step s = .next { s with
        turns := ts, outq := s.outq ++ [r], phi := (s.phi + fm) % d, acc := (s.acc + s.bw.toNat) % m, k := s.k + 1 }) ∧
    (s.k + 1 = s.nsamp → s.seg.toNat + 1 = s.nseg.toNat →
      step s = .next { s with
        turns := ts, outq := s.outq ++ [r], phi := (s.phi + fm) % d, acc := (s.acc + s.bw.toNat) % m, k := 0,
        seg := s.seg + 1, edone := true }) ∧
    (s.k + 1 = s.nsamp → s.seg.toNat + 1 ≠ s.nseg.toNat →
      ∀ sym dir, slotOf s (s.seg.toNat + 1) = some (sym, dir) →
      step s = .next { s with
        turns := ts, outq := s.outq ++ [r], seg := s.seg + 1, csym := sym, cdir := dir,
        acc := s.fs.toNat * sym.toNat, phi := 0, k := 0 })

/-- R168: the engine's turn with everything emitted and OUTQ empty completes the operation: ENG is IDLE, so BUSY reads 0,
and DONE is 1; where neither that step nor the emit step (R166) is enabled, the engine's turn changes nothing. -/
def Obligations.EngineCompletesOrHolds : Prop :=
  ∀ (s : State) (ts : List Agent), s.turns = .engine :: ts →
    (s.eng = .run → s.edone = true → s.outq = [] →
      step s = .next { s with turns := ts, eng := .idle, done := true } ∧
      (statusWord { s with turns := ts, eng := .idle, done := true }).getLsbD 0 = false) ∧
    ((s.eng = .idle ∨ (s.eng = .run ∧ s.edone = false ∧ s.par.outDepth ≤ s.outq.length) ∨
        (s.eng = .run ∧ s.edone = true ∧ s.outq ≠ [])) →
      step s = .next { s with turns := ts })

/-- R66, R67: the sink's turn delivers the head record and removes it, or changes nothing while OUTQ is empty. The
model's choices (log 11, log 20): a record with LAST ends the sink's packet, and a reset turn drops the packet the sink
has not whole and keeps its whole packets, the host's program and reads, and the schedule. -/
def Obligations.SinkTakesTheHead : Prop :=
  (∀ (s : State) (ts : List Agent), s.turns = .sink :: ts →
    (s.outq = [] → step s = .next { s with turns := ts }) ∧
    (∀ r q, s.outq = r :: q → r.last = false →
      step s = .next { s with turns := ts, outq := q, received := s.received ++ [r] }) ∧
    (∀ r q, s.outq = r :: q → r.last = true →
      step s = .next { s with turns := ts, outq := q, received := [], packets := s.packets ++ [s.received ++ [r]] })) ∧
  ∀ (s : State) (ts : List Agent), s.turns = .reset :: ts →
    ∃ t, step s = .next t ∧ t.turns = ts ∧ t.program = s.program ∧ t.reads = s.reads ∧ t.packets = s.packets ∧
      t.received = []

/-- R45: after a reset step every register reads as the table says, ENG is IDLE and OUTQ is empty, whatever the state
before; the parameters are kept. -/
def Obligations.ResetGivesResetValues : Prop :=
  ∀ (s : State) (ts : List Agent), s.turns = .reset :: ts → s.par.admissible →
    ∃ t, step s = .next t ∧ t.par = s.par ∧ t.outq = [] ∧ t.eng = .idle ∧ t.irq = false ∧
      memRead t 0x000 = s.par.idValue ∧ memRead t 0x020 = 8 ∧
      (∀ o ∈ [0x004, 0x00C, 0x010, 0x014, 0x018, 0x01C, 0x024, 0x028, 0x02C, 0x034, 0x038, 0x03C, 0x040, 0x044,
        0x048, 0x04C, 0x050, 0x054], memRead t (BitVec.ofNat 32 o) = 0) ∧
      (∀ i < 5, memRead t (BitVec.ofNat 32 (0x100 + 4 * i)) = 1) ∧
      (∀ i, 5 ≤ i → i < s.par.pmax → memRead t (BitVec.ofNat 32 (0x100 + 4 * i)) = 0)

/-! ### The whole machine -/

/-- R44, R45: the machine right after reset satisfies both invariants (the values logs 4, 7 and 8 choose do too). -/
def Obligations.ResetSatisfiesInvariants : Prop := Inv State.reset ∧ StreamInv State.reset

/-- What R44 derives, with R22's RES bits and R8's widths: every step of every agent keeps the machine's invariant. That
K, S and PHI keep the ranges of R36 and R37 all through a run, also once EDONE is 1, where R44 does not speak of them, is
the model's reading (log 16, and log 22 for an operation with no segment). -/
def Obligations.StepKeepsInvariant : Prop :=
  ∀ s t : State, Inv s → step s = .next t → Inv t

/-- What R169 derives: every step of every agent keeps the relation between the stream and the operation's record
sequence. -/
def Obligations.StepKeepsStream : Prop :=
  ∀ s t : State, Inv s → StreamInv s → step s = .next t → StreamInv t

/-- What R175 derives (no step of the engine can fail): from a state of the invariant no step faults, and only a bus
operation whose size is not 4 is refused (R61). -/
def Obligations.StepNeverFaults : Prop :=
  ∀ s : State, Inv s →
    (∃ t, step s = .next t) ∨ (∃ n, n ≠ 4 ∧ step s = .refused (.busSize n))

/-- R6, R20: the parameters are no state; no step changes them. -/
def Obligations.StepKeepsParameters : Prop :=
  ∀ s t : State, step s = .next t → t.par = s.par

/-- What R70 derives: while ENG = RUN, no step but a reset changes the configuration, the mask, the message, N, the
symbols or the operation, and SEG never decreases. -/
def Obligations.RunKeepsItsInputs : Prop :=
  ∀ s t : State, Inv s → s.eng = .run → (∀ ts, s.turns ≠ .reset :: ts) → step s = .next t →
    t.fs = s.fs ∧ t.bw = s.bw ∧ t.f0 = s.f0 ∧ t.mode = s.mode ∧ t.plen = s.plen ∧ t.pmask = s.pmask ∧
    t.msglen = s.msglen ∧ t.msgbuf = s.msgbuf ∧ t.nsamp = s.nsamp ∧ t.nsym = s.nsym ∧ t.symbuf = s.symbuf ∧
    t.opk = s.opk ∧ t.nseg = s.nseg ∧ t.asym = s.asym ∧ t.adir = s.adir ∧ s.seg.toNat ≤ t.seg.toNat

/-- What R46 and X6 derive, for every step: two states that differ only in what the spec leaves unspecified (`forget`)
step to states that differ only in it, with the same reads, packets, OUTQ, registers and irq. -/
def Obligations.UnspecifiedStateIsUnobservable : Prop :=
  ∀ s t s' : State, Inv s → Inv t → forget s = forget t → step s = .next s' →
    ∃ t', step t = .next t' ∧ forget s' = forget t' ∧
      s'.reads = t'.reads ∧ s'.packets = t'.packets ∧ s'.received = t'.received ∧ s'.outq = t'.outq ∧
      s'.irq = t'.irq ∧ (∀ a, memRead s' a = memRead t' a)

/-- R164, R147: the record sequence of a running operation has NSEG * N records; record j * N + k is sample k of
Slot(j), with FIRST where k = 0 and LAST on the final record only. -/
def Obligations.OperationRecords : Prop :=
  ∀ s : State, Inv s → s.eng = .run →
    (operationRecords s).length = s.nseg.toNat * s.nsamp ∧
    ∀ j k sym dir, j < s.nseg.toNat → k < s.nsamp → slotOf s j = some (sym, dir) →
      (operationRecords s)[j * s.nsamp + k]? = some
        { phase := (chirpAt s.chirp sym.toNat dir k).2
          i := Config.ampI s.par.outW (chirpAt s.chirp sym.toNat dir k).2 (modulusD s.chirp)
          q := Config.ampQ s.par.outW (chirpAt s.chirp sym.toNat dir k).2 (modulusD s.chirp)
          first := decide (k = 0)
          last := decide (j * s.nsamp + k + 1 = s.nseg.toNat * s.nsamp) }

/-- What R171, R172 and R175 derive: after an accepted START or SYNTH with at least one segment, under EVERY schedule
without a reset, every host program and every OUT_DEPTH, either the sink has so far a beginning of the operation's
record sequence and no new packet, or its first new packet is exactly that sequence. -/
def Obligations.DeliveryIndependentOfSchedule : Prop :=
  ∀ (s s1 : State) (i : Instr), Inv s → StreamInv s → s.eng = .idle → exec i s = .next s1 → s1.eng = .run → s1.nseg ≠ 0 →
    ∀ (turns : List Agent) (program : List HostOp) (depth n : Nat) (t : State),
      Agent.reset ∉ turns → 1 ≤ depth →
      Sys2Proof.core.run n { s1 with
        turns := turns, program := program, par := { s1.par with outDepth := depth } } = .next t →
      (∃ later, t.packets = s1.packets ++ [operationRecords s1] ++ later) ∨
      (t.packets = s1.packets ∧ (t.received ++ t.outq) <+: operationRecords s1)

/-- R212, R168 under a fair schedule, from every acceptance: after NSEG * N emit steps, as many sink steps and one
completion step the operation is complete: BUSY is 0, DONE is 1, POSSEG is SEGCNT, and the sink has the packet whole. -/
def Obligations.FairScheduleCompletes : Prop :=
  ∀ (s s1 : State) (i : Instr) (rest : List Agent), Inv s → StreamInv s → s.eng = .idle → exec i s = .next s1 → s1.eng = .run →
    ∃ t, Sys2Proof.core.run (2 * (s1.nseg.toNat * s1.nsamp) + 1)
        { s1 with turns := fairTurns (s1.nseg.toNat * s1.nsamp) ++ rest } = .next t ∧
      t.eng = .idle ∧ t.done = true ∧ t.outq = [] ∧ t.received = [] ∧ t.turns = rest ∧
      t.seg = s1.nseg ∧ t.nseg = s1.nseg ∧
      t.packets = s1.packets ++ (if s1.nseg = 0 then [] else [operationRecords s1])
end

