-- ==== Sys2Proof/Laws/Decode.lean ====
section
/-! SUPPORT. The fields of a command word, and the bytes of a word. -/

namespace Sys2Proof

@[simp] theorem opField_commandWord (op : BitVec 4) (dir : BitVec 1) (arg : Half) :
    opField (commandWord op dir arg) = op := by
  ext i hi
  simp only [opField, commandWord, BitVec.getElem_extractLsb', BitVec.getLsbD_append]
  simp [hi]

@[simp] theorem argField_commandWord (op : BitVec 4) (dir : BitVec 1) (arg : Half) :
    argField (commandWord op dir arg) = arg := by
  ext i hi
  have h1 : ¬ 16 + i < 4 := by omega
  have h2 : ¬ 16 + i - 4 < 1 := by omega
  have h3 : ¬ 16 + i - 4 - 1 < 11 := by omega
  have h4 : 16 + i - 4 - 1 - 11 = i := by omega
  simp only [argField, commandWord, BitVec.getElem_extractLsb', BitVec.getLsbD_append, h1, h2, h3, h4, if_false]
  exact BitVec.getLsbD_eq_getElem hi

@[simp] theorem dirField_commandWord (op : BitVec 4) (dir : BitVec 1) (arg : Half) :
    dirField (commandWord op dir arg) = dir.getLsbD 0 := by
  rw [dirField, commandWord, BitVec.getLsbD_append, if_neg (by decide), BitVec.getLsbD_append, if_pos (by decide)]

theorem decode_bytes (b0 b1 b2 b3 : Byte) :
    decode [b0, b1, b2, b3] = .ok (decodeWord (wordOfBytes b0 b1 b2 b3)) := rfl

end Sys2Proof
end

