-- ==== Sys2Proof/Laws/Memory.lean ====
section
/-! SUPPORT. The buffers: read after write, the canonical form, and the addresses a write adds. -/

namespace Sys2Proof.Machine

variable {w : Nat}

@[simp] theorem memory_read_nil (a : Nat) : Memory.read ([] : Memory w) a = Memory.unlisted w := rfl

/-- Every listed address is above `b`. -/
abbrev Memory.above (b : Nat) (m : Memory w) : Prop := ∀ c ∈ m, b < c.1

theorem memory_read_of_above {m : Memory w} {a : Nat} (h : Memory.above a m) :
    Memory.read m a = Memory.unlisted w := by
  induction m with
  | nil => rfl
  | cons c m ih =>
    have hc : a ≠ c.1 := (Nat.ne_of_lt (h c (by simp)))
    have := ih fun d hd => h d (by simp [hd])
    simp [Memory.read, hc, this]

theorem memory_wf_cons {c : Nat × BitVec w} {m : Memory w} :
    Memory.wf (c :: m) ↔ Memory.above c.1 m ∧ c.2 ≠ Memory.unlisted w ∧ Memory.wf m := by
  constructor
  · rintro ⟨hp, hv⟩
    rw [List.pairwise_cons] at hp
    exact ⟨hp.1, hv c (by simp), hp.2, fun d hd => hv d (by simp [hd])⟩
  · rintro ⟨ha, hc, hp, hv⟩
    refine ⟨List.pairwise_cons.2 ⟨ha, hp⟩, ?_⟩
    intro d hd
    rcases List.mem_cons.1 hd with rfl | hd
    · exact hc
    · exact hv d hd

theorem memory_put_read {m : Memory w} {a : Nat} (v : BitVec w) (h : Memory.above a m) (b : Nat) :
    Memory.read (Memory.put a v m) b = if b = a then v else Memory.read m b := by
  unfold Memory.put
  split
  · next hv =>
    by_cases hb : b = a
    · subst hb; simp [memory_read_of_above h, hv]
    · simp [hb]
  · simp [Memory.read]

theorem memory_put_wf {m : Memory w} {a : Nat} (v : BitVec w) (h : Memory.above a m) (hm : Memory.wf m) :
    Memory.wf (Memory.put a v m) := by
  unfold Memory.put
  split
  · exact hm
  · next hv => exact memory_wf_cons.2 ⟨h, hv, hm⟩

theorem memory_put_mem {m : Memory w} {a : Nat} {v : BitVec w} {c : Nat × BitVec w}
    (h : c ∈ Memory.put a v m) : c = (a, v) ∨ c ∈ m := by
  unfold Memory.put at h
  split at h
  · exact .inr h
  · simpa using h

theorem memory_write_mem {m : Memory w} {a : Nat} {v : BitVec w} {c : Nat × BitVec w}
    (h : c ∈ Memory.write m a v) : c = (a, v) ∨ c ∈ m := by
  induction m with
  | nil => exact memory_put_mem h
  | cons d m ih =>
    obtain ⟨b, u⟩ := d
    simp only [Memory.write] at h
    split at h
    · exact memory_put_mem h
    · split at h
      · rcases memory_put_mem h with h | h
        · exact .inl h
        · exact .inr (by simp [h])
      · rcases List.mem_cons.1 h with h | h
        · exact .inr (by simp [h])
        · rcases ih h with h | h
          · exact .inl h
          · exact .inr (by simp [h])

/-- A write keeps the canonical form. -/
theorem memory_write_wf {m : Memory w} (a : Nat) (v : BitVec w) (hm : Memory.wf m) :
    Memory.wf (Memory.write m a v) := by
  induction m with
  | nil => exact memory_put_wf v (by simp [Memory.above]) hm
  | cons d m ih =>
    obtain ⟨b, u⟩ := d
    obtain ⟨hb, hu, hm'⟩ := memory_wf_cons.1 hm
    simp only [Memory.write]
    split
    · next hab =>
      refine memory_put_wf v ?_ hm
      intro c hc
      rcases List.mem_cons.1 hc with rfl | hc
      · exact hab
      · exact lt_trans hab (hb c hc)
    · split
      · next hab => exact memory_put_wf v (by rw [hab]; exact hb) hm'
      · next h1 h2 =>
        refine memory_wf_cons.2 ⟨?_, hu, ih hm'⟩
        intro c hc
        rcases memory_write_mem hc with rfl | hc
        · simp only [not_lt] at h1
          exact lt_of_le_of_ne h1 (Ne.symm h2)
        · exact hb c hc

/-- A read after a write: the value at the written address, the old value elsewhere. -/
theorem memory_read_write {m : Memory w} (a : Nat) (v : BitVec w) (b : Nat) (hm : Memory.wf m) :
    Memory.read (Memory.write m a v) b = if b = a then v else Memory.read m b := by
  induction m with
  | nil => exact memory_put_read v (by simp [Memory.above]) b
  | cons d m ih =>
    obtain ⟨c, u⟩ := d
    obtain ⟨hc, -, hm'⟩ := memory_wf_cons.1 hm
    simp only [Memory.write]
    split
    · next hac =>
      refine memory_put_read v ?_ b
      intro e he
      rcases List.mem_cons.1 he with rfl | he
      · exact hac
      · exact lt_trans hac (hc e he)
    · split
      · next hac =>
        subst hac
        rw [memory_put_read v hc b]
        by_cases hb : b = a <;> simp [Memory.read, hb]
      · next h1 h2 =>
        by_cases hb : b = c
        · subst hb
          simp [Memory.read, Ne.symm h2]
        · simp [Memory.read, hb, ih hm']

/-- Consecutive writes keep the canonical form. -/
theorem memory_writeAll_wf (vs : List (BitVec w)) : ∀ {m : Memory w} (a : Nat), Memory.wf m →
    Memory.wf (Memory.writeAll m a vs) := by
  induction vs with
  | nil => exact fun a hm => hm
  | cons v vs ih => exact fun a hm => ih (a + 1) (memory_write_wf a v hm)

/-- A read after consecutive writes from address `a`. -/
theorem memory_read_writeAll (vs : List (BitVec w)) : ∀ {m : Memory w} (a b : Nat), Memory.wf m →
    Memory.read (Memory.writeAll m a vs) b =
      if a ≤ b ∧ b < a + vs.length then vs.getD (b - a) (Memory.unlisted w) else Memory.read m b := by
  induction vs with
  | nil => intro m a b _; simp [Memory.writeAll]
  | cons v vs ih =>
    intro m a b hm
    rw [Memory.writeAll, ih (a + 1) b (memory_write_wf a v hm), memory_read_write a v b hm]
    simp only [List.length_cons]
    by_cases h1 : b = a
    · subst h1; simp
    · by_cases h2 : a + 1 ≤ b ∧ b < a + 1 + vs.length
      · have h3 : a ≤ b ∧ b < a + (vs.length + 1) := by omega
        have h4 : b - a = (b - (a + 1)) + 1 := by omega
        simp only [h2, h3, and_self, if_true, h4, List.getD_cons_succ]
      · have h3 : ¬ (a ≤ b ∧ b < a + (vs.length + 1)) := by omega
        rw [if_neg h2, if_neg h3, if_neg h1]

/-- The addresses consecutive writes list are old ones or among those written. -/
theorem memory_writeAll_mem (vs : List (BitVec w)) : ∀ {m : Memory w} {a : Nat} {c : Nat × BitVec w},
    c ∈ Memory.writeAll m a vs → c ∈ m ∨ (a ≤ c.1 ∧ c.1 < a + vs.length) := by
  induction vs with
  | nil => intro m a c h; exact .inl h
  | cons v vs ih =>
    intro m a c h
    rcases ih h with h | h
    · rcases memory_write_mem h with rfl | h
      · exact .inr ⟨le_refl _, by simp⟩
      · exact .inl h
    · exact .inr ⟨by omega, by simp only [List.length_cons]; omega⟩

end Sys2Proof.Machine
end

