-- ==== Sys2Proof/Laws/State.lean ====
section
/-! SUPPORT. One lemma per field for each named update of the state. -/

namespace Sys2Proof.Machine

open Sys2Proof

section RaiseError
variable (c : Cause) (s : State)

@[simp] theorem raiseError_par : (raiseError c s).par = s.par := rfl
@[simp] theorem raiseError_done : (raiseError c s).done = s.done := rfl
@[simp] theorem raiseError_err : (raiseError c s).err = true := rfl
@[simp] theorem raiseError_cmdrej : (raiseError c s).cmdrej = s.cmdrej := rfl
@[simp] theorem raiseError_wign : (raiseError c s).wign = s.wign := rfl
@[simp] theorem raiseError_msgovf : (raiseError c s).msgovf = s.msgovf := rfl
@[simp] theorem raiseError_irqen : (raiseError c s).irqen = s.irqen := rfl
@[simp] theorem raiseError_fs : (raiseError c s).fs = s.fs := rfl
@[simp] theorem raiseError_bw : (raiseError c s).bw = s.bw := rfl
@[simp] theorem raiseError_f0 : (raiseError c s).f0 = s.f0 := rfl
@[simp] theorem raiseError_mode : (raiseError c s).mode = s.mode := rfl
@[simp] theorem raiseError_plen : (raiseError c s).plen = s.plen := rfl
@[simp] theorem raiseError_pmask : (raiseError c s).pmask = s.pmask := rfl
@[simp] theorem raiseError_nsamp : (raiseError c s).nsamp = s.nsamp := rfl
@[simp] theorem raiseError_msglen : (raiseError c s).msglen = s.msglen := rfl
@[simp] theorem raiseError_msgbuf : (raiseError c s).msgbuf = s.msgbuf := rfl
@[simp] theorem raiseError_nsym : (raiseError c s).nsym = s.nsym := rfl
@[simp] theorem raiseError_symbuf : (raiseError c s).symbuf = s.symbuf := rfl
@[simp] theorem raiseError_result : (raiseError c s).result = s.result := rfl
@[simp] theorem raiseError_errcode : (raiseError c s).errcode = c.code := rfl
@[simp] theorem raiseError_erridx : (raiseError c s).erridx = c.idx := rfl
@[simp] theorem raiseError_errval : (raiseError c s).errval = c.val := rfl
@[simp] theorem raiseError_symidx : (raiseError c s).symidx = s.symidx := rfl
@[simp] theorem raiseError_eng : (raiseError c s).eng = s.eng := rfl
@[simp] theorem raiseError_opk : (raiseError c s).opk = s.opk := rfl
@[simp] theorem raiseError_nseg : (raiseError c s).nseg = s.nseg := rfl
@[simp] theorem raiseError_seg : (raiseError c s).seg = s.seg := rfl
@[simp] theorem raiseError_k : (raiseError c s).k = s.k := rfl
@[simp] theorem raiseError_edone : (raiseError c s).edone = s.edone := rfl
@[simp] theorem raiseError_csym : (raiseError c s).csym = s.csym := rfl
@[simp] theorem raiseError_cdir : (raiseError c s).cdir = s.cdir := rfl
@[simp] theorem raiseError_asym : (raiseError c s).asym = s.asym := rfl
@[simp] theorem raiseError_adir : (raiseError c s).adir = s.adir := rfl
@[simp] theorem raiseError_acc : (raiseError c s).acc = s.acc := rfl
@[simp] theorem raiseError_phi : (raiseError c s).phi = s.phi := rfl
@[simp] theorem raiseError_outq : (raiseError c s).outq = s.outq := rfl
@[simp] theorem raiseError_free : (raiseError c s).free = s.free := rfl
@[simp] theorem raiseError_turns : (raiseError c s).turns = s.turns := rfl
@[simp] theorem raiseError_program : (raiseError c s).program = s.program := rfl
@[simp] theorem raiseError_reads : (raiseError c s).reads = s.reads := rfl
@[simp] theorem raiseError_received : (raiseError c s).received = s.received := rfl
@[simp] theorem raiseError_packets : (raiseError c s).packets = s.packets := rfl
@[simp] theorem raiseError_chirp : (raiseError c s).chirp = s.chirp := rfl

end RaiseError

section Reject
variable (f : RejFlag) (s : State)

@[simp] theorem reject_par : (reject f s).par = s.par := by cases f <;> rfl
@[simp] theorem reject_done : (reject f s).done = s.done := by cases f <;> rfl
@[simp] theorem reject_err : (reject f s).err = s.err := by cases f <;> rfl
@[simp] theorem reject_cmdrej : (reject f s).cmdrej = (s.cmdrej || f == .cmdrej) := by cases f <;> simp [reject]
@[simp] theorem reject_wign : (reject f s).wign = (s.wign || f == .wign) := by cases f <;> simp [reject]
@[simp] theorem reject_msgovf : (reject f s).msgovf = (s.msgovf || f == .msgovf) := by cases f <;> simp [reject]
@[simp] theorem reject_irqen : (reject f s).irqen = s.irqen := by cases f <;> rfl
@[simp] theorem reject_fs : (reject f s).fs = s.fs := by cases f <;> rfl
@[simp] theorem reject_bw : (reject f s).bw = s.bw := by cases f <;> rfl
@[simp] theorem reject_f0 : (reject f s).f0 = s.f0 := by cases f <;> rfl
@[simp] theorem reject_mode : (reject f s).mode = s.mode := by cases f <;> rfl
@[simp] theorem reject_plen : (reject f s).plen = s.plen := by cases f <;> rfl
@[simp] theorem reject_pmask : (reject f s).pmask = s.pmask := by cases f <;> rfl
@[simp] theorem reject_nsamp : (reject f s).nsamp = s.nsamp := by cases f <;> rfl
@[simp] theorem reject_msglen : (reject f s).msglen = s.msglen := by cases f <;> rfl
@[simp] theorem reject_msgbuf : (reject f s).msgbuf = s.msgbuf := by cases f <;> rfl
@[simp] theorem reject_nsym : (reject f s).nsym = s.nsym := by cases f <;> rfl
@[simp] theorem reject_symbuf : (reject f s).symbuf = s.symbuf := by cases f <;> rfl
@[simp] theorem reject_result : (reject f s).result = s.result := by cases f <;> rfl
@[simp] theorem reject_errcode : (reject f s).errcode = s.errcode := by cases f <;> rfl
@[simp] theorem reject_erridx : (reject f s).erridx = s.erridx := by cases f <;> rfl
@[simp] theorem reject_errval : (reject f s).errval = s.errval := by cases f <;> rfl
@[simp] theorem reject_symidx : (reject f s).symidx = s.symidx := by cases f <;> rfl
@[simp] theorem reject_eng : (reject f s).eng = s.eng := by cases f <;> rfl
@[simp] theorem reject_opk : (reject f s).opk = s.opk := by cases f <;> rfl
@[simp] theorem reject_nseg : (reject f s).nseg = s.nseg := by cases f <;> rfl
@[simp] theorem reject_seg : (reject f s).seg = s.seg := by cases f <;> rfl
@[simp] theorem reject_k : (reject f s).k = s.k := by cases f <;> rfl
@[simp] theorem reject_edone : (reject f s).edone = s.edone := by cases f <;> rfl
@[simp] theorem reject_csym : (reject f s).csym = s.csym := by cases f <;> rfl
@[simp] theorem reject_cdir : (reject f s).cdir = s.cdir := by cases f <;> rfl
@[simp] theorem reject_asym : (reject f s).asym = s.asym := by cases f <;> rfl
@[simp] theorem reject_adir : (reject f s).adir = s.adir := by cases f <;> rfl
@[simp] theorem reject_acc : (reject f s).acc = s.acc := by cases f <;> rfl
@[simp] theorem reject_phi : (reject f s).phi = s.phi := by cases f <;> rfl
@[simp] theorem reject_outq : (reject f s).outq = s.outq := by cases f <;> rfl
@[simp] theorem reject_turns : (reject f s).turns = s.turns := by cases f <;> rfl
@[simp] theorem reject_program : (reject f s).program = s.program := by cases f <;> rfl
@[simp] theorem reject_reads : (reject f s).reads = s.reads := by cases f <;> rfl
@[simp] theorem reject_received : (reject f s).received = s.received := by cases f <;> rfl
@[simp] theorem reject_packets : (reject f s).packets = s.packets := by cases f <;> rfl
@[simp] theorem reject_chirp : (reject f s).chirp = s.chirp := by cases f <;> rfl

end Reject

section SetSegment
variable (sym : Half) (dir : Dir) (s : State)

@[simp] theorem setSegment_par : (setSegment sym dir s).par = s.par := rfl
@[simp] theorem setSegment_done : (setSegment sym dir s).done = s.done := rfl
@[simp] theorem setSegment_err : (setSegment sym dir s).err = s.err := rfl
@[simp] theorem setSegment_cmdrej : (setSegment sym dir s).cmdrej = s.cmdrej := rfl
@[simp] theorem setSegment_wign : (setSegment sym dir s).wign = s.wign := rfl
@[simp] theorem setSegment_msgovf : (setSegment sym dir s).msgovf = s.msgovf := rfl
@[simp] theorem setSegment_irqen : (setSegment sym dir s).irqen = s.irqen := rfl
@[simp] theorem setSegment_fs : (setSegment sym dir s).fs = s.fs := rfl
@[simp] theorem setSegment_bw : (setSegment sym dir s).bw = s.bw := rfl
@[simp] theorem setSegment_f0 : (setSegment sym dir s).f0 = s.f0 := rfl
@[simp] theorem setSegment_mode : (setSegment sym dir s).mode = s.mode := rfl
@[simp] theorem setSegment_plen : (setSegment sym dir s).plen = s.plen := rfl
@[simp] theorem setSegment_pmask : (setSegment sym dir s).pmask = s.pmask := rfl
@[simp] theorem setSegment_nsamp : (setSegment sym dir s).nsamp = s.nsamp := rfl
@[simp] theorem setSegment_msglen : (setSegment sym dir s).msglen = s.msglen := rfl
@[simp] theorem setSegment_msgbuf : (setSegment sym dir s).msgbuf = s.msgbuf := rfl
@[simp] theorem setSegment_nsym : (setSegment sym dir s).nsym = s.nsym := rfl
@[simp] theorem setSegment_symbuf : (setSegment sym dir s).symbuf = s.symbuf := rfl
@[simp] theorem setSegment_result : (setSegment sym dir s).result = s.result := rfl
@[simp] theorem setSegment_errcode : (setSegment sym dir s).errcode = s.errcode := rfl
@[simp] theorem setSegment_erridx : (setSegment sym dir s).erridx = s.erridx := rfl
@[simp] theorem setSegment_errval : (setSegment sym dir s).errval = s.errval := rfl
@[simp] theorem setSegment_symidx : (setSegment sym dir s).symidx = s.symidx := rfl
@[simp] theorem setSegment_eng : (setSegment sym dir s).eng = s.eng := rfl
@[simp] theorem setSegment_opk : (setSegment sym dir s).opk = s.opk := rfl
@[simp] theorem setSegment_nseg : (setSegment sym dir s).nseg = s.nseg := rfl
@[simp] theorem setSegment_seg : (setSegment sym dir s).seg = s.seg := rfl
@[simp] theorem setSegment_k : (setSegment sym dir s).k = 0 := rfl
@[simp] theorem setSegment_edone : (setSegment sym dir s).edone = s.edone := rfl
@[simp] theorem setSegment_csym : (setSegment sym dir s).csym = sym := rfl
@[simp] theorem setSegment_cdir : (setSegment sym dir s).cdir = dir := rfl
@[simp] theorem setSegment_asym : (setSegment sym dir s).asym = s.asym := rfl
@[simp] theorem setSegment_adir : (setSegment sym dir s).adir = s.adir := rfl
@[simp] theorem setSegment_acc : (setSegment sym dir s).acc = shiftStart s.chirp sym.toNat := rfl
@[simp] theorem setSegment_phi : (setSegment sym dir s).phi = 0 := rfl
@[simp] theorem setSegment_outq : (setSegment sym dir s).outq = s.outq := rfl
@[simp] theorem setSegment_free : (setSegment sym dir s).free = s.free := rfl
@[simp] theorem setSegment_turns : (setSegment sym dir s).turns = s.turns := rfl
@[simp] theorem setSegment_program : (setSegment sym dir s).program = s.program := rfl
@[simp] theorem setSegment_reads : (setSegment sym dir s).reads = s.reads := rfl
@[simp] theorem setSegment_received : (setSegment sym dir s).received = s.received := rfl
@[simp] theorem setSegment_packets : (setSegment sym dir s).packets = s.packets := rfl
@[simp] theorem setSegment_chirp : (setSegment sym dir s).chirp = s.chirp := rfl

end SetSegment

section Rewind
variable (b : Bool) (s : State)

@[simp] theorem rewind_par : (rewind b s).par = s.par := rfl
@[simp] theorem rewind_done : (rewind b s).done = s.done := rfl
@[simp] theorem rewind_err : (rewind b s).err = s.err := rfl
@[simp] theorem rewind_cmdrej : (rewind b s).cmdrej = s.cmdrej := rfl
@[simp] theorem rewind_wign : (rewind b s).wign = s.wign := rfl
@[simp] theorem rewind_msgovf : (rewind b s).msgovf = s.msgovf := rfl
@[simp] theorem rewind_irqen : (rewind b s).irqen = s.irqen := rfl
@[simp] theorem rewind_fs : (rewind b s).fs = s.fs := rfl
@[simp] theorem rewind_bw : (rewind b s).bw = s.bw := rfl
@[simp] theorem rewind_f0 : (rewind b s).f0 = s.f0 := rfl
@[simp] theorem rewind_mode : (rewind b s).mode = s.mode := rfl
@[simp] theorem rewind_plen : (rewind b s).plen = s.plen := rfl
@[simp] theorem rewind_pmask : (rewind b s).pmask = s.pmask := rfl
@[simp] theorem rewind_nsamp : (rewind b s).nsamp = s.nsamp := rfl
@[simp] theorem rewind_msglen : (rewind b s).msglen = s.msglen := rfl
@[simp] theorem rewind_msgbuf : (rewind b s).msgbuf = s.msgbuf := rfl
@[simp] theorem rewind_nsym : (rewind b s).nsym = s.nsym := rfl
@[simp] theorem rewind_symbuf : (rewind b s).symbuf = s.symbuf := rfl
@[simp] theorem rewind_result : (rewind b s).result = s.result := rfl
@[simp] theorem rewind_errcode : (rewind b s).errcode = s.errcode := rfl
@[simp] theorem rewind_erridx : (rewind b s).erridx = s.erridx := rfl
@[simp] theorem rewind_errval : (rewind b s).errval = s.errval := rfl
@[simp] theorem rewind_symidx : (rewind b s).symidx = s.symidx := rfl
@[simp] theorem rewind_eng : (rewind b s).eng = s.eng := rfl
@[simp] theorem rewind_opk : (rewind b s).opk = s.opk := rfl
@[simp] theorem rewind_nseg : (rewind b s).nseg = s.nseg := rfl
@[simp] theorem rewind_seg : (rewind b s).seg = 0 := rfl
@[simp] theorem rewind_k : (rewind b s).k = s.k := rfl
@[simp] theorem rewind_edone : (rewind b s).edone = b := rfl
@[simp] theorem rewind_csym : (rewind b s).csym = s.csym := rfl
@[simp] theorem rewind_cdir : (rewind b s).cdir = s.cdir := rfl
@[simp] theorem rewind_asym : (rewind b s).asym = s.asym := rfl
@[simp] theorem rewind_adir : (rewind b s).adir = s.adir := rfl
@[simp] theorem rewind_acc : (rewind b s).acc = s.acc := rfl
@[simp] theorem rewind_phi : (rewind b s).phi = s.phi := rfl
@[simp] theorem rewind_outq : (rewind b s).outq = s.outq := rfl
@[simp] theorem rewind_free : (rewind b s).free = s.free := rfl
@[simp] theorem rewind_turns : (rewind b s).turns = s.turns := rfl
@[simp] theorem rewind_program : (rewind b s).program = s.program := rfl
@[simp] theorem rewind_reads : (rewind b s).reads = s.reads := rfl
@[simp] theorem rewind_received : (rewind b s).received = s.received := rfl
@[simp] theorem rewind_packets : (rewind b s).packets = s.packets := rfl
@[simp] theorem rewind_chirp : (rewind b s).chirp = s.chirp := rfl

end Rewind

section ArmEngine
variable (o : OpKind) (n : BitVec 17) (s : State)

@[simp] theorem armEngine_par : (armEngine o n s).par = s.par := rfl
@[simp] theorem armEngine_done : (armEngine o n s).done = false := rfl
@[simp] theorem armEngine_err : (armEngine o n s).err = s.err := rfl
@[simp] theorem armEngine_cmdrej : (armEngine o n s).cmdrej = s.cmdrej := rfl
@[simp] theorem armEngine_wign : (armEngine o n s).wign = s.wign := rfl
@[simp] theorem armEngine_msgovf : (armEngine o n s).msgovf = s.msgovf := rfl
@[simp] theorem armEngine_irqen : (armEngine o n s).irqen = s.irqen := rfl
@[simp] theorem armEngine_fs : (armEngine o n s).fs = s.fs := rfl
@[simp] theorem armEngine_bw : (armEngine o n s).bw = s.bw := rfl
@[simp] theorem armEngine_f0 : (armEngine o n s).f0 = s.f0 := rfl
@[simp] theorem armEngine_mode : (armEngine o n s).mode = s.mode := rfl
@[simp] theorem armEngine_plen : (armEngine o n s).plen = s.plen := rfl
@[simp] theorem armEngine_pmask : (armEngine o n s).pmask = s.pmask := rfl
@[simp] theorem armEngine_nsamp : (armEngine o n s).nsamp = segmentLength s.chirp := rfl
@[simp] theorem armEngine_msglen : (armEngine o n s).msglen = s.msglen := rfl
@[simp] theorem armEngine_msgbuf : (armEngine o n s).msgbuf = s.msgbuf := rfl
@[simp] theorem armEngine_nsym : (armEngine o n s).nsym = s.nsym := rfl
@[simp] theorem armEngine_symbuf : (armEngine o n s).symbuf = s.symbuf := rfl
@[simp] theorem armEngine_result : (armEngine o n s).result = s.result := rfl
@[simp] theorem armEngine_errcode : (armEngine o n s).errcode = s.errcode := rfl
@[simp] theorem armEngine_erridx : (armEngine o n s).erridx = s.erridx := rfl
@[simp] theorem armEngine_errval : (armEngine o n s).errval = s.errval := rfl
@[simp] theorem armEngine_symidx : (armEngine o n s).symidx = s.symidx := rfl
@[simp] theorem armEngine_eng : (armEngine o n s).eng = .run := rfl
@[simp] theorem armEngine_opk : (armEngine o n s).opk = o := rfl
@[simp] theorem armEngine_nseg : (armEngine o n s).nseg = n := rfl
@[simp] theorem armEngine_seg : (armEngine o n s).seg = s.seg := rfl
@[simp] theorem armEngine_k : (armEngine o n s).k = s.k := rfl
@[simp] theorem armEngine_edone : (armEngine o n s).edone = s.edone := rfl
@[simp] theorem armEngine_csym : (armEngine o n s).csym = s.csym := rfl
@[simp] theorem armEngine_cdir : (armEngine o n s).cdir = s.cdir := rfl
@[simp] theorem armEngine_asym : (armEngine o n s).asym = s.asym := rfl
@[simp] theorem armEngine_adir : (armEngine o n s).adir = s.adir := rfl
@[simp] theorem armEngine_acc : (armEngine o n s).acc = s.acc := rfl
@[simp] theorem armEngine_phi : (armEngine o n s).phi = s.phi := rfl
@[simp] theorem armEngine_outq : (armEngine o n s).outq = s.outq := rfl
@[simp] theorem armEngine_free : (armEngine o n s).free = s.free := rfl
@[simp] theorem armEngine_turns : (armEngine o n s).turns = s.turns := rfl
@[simp] theorem armEngine_program : (armEngine o n s).program = s.program := rfl
@[simp] theorem armEngine_reads : (armEngine o n s).reads = s.reads := rfl
@[simp] theorem armEngine_received : (armEngine o n s).received = s.received := rfl
@[simp] theorem armEngine_packets : (armEngine o n s).packets = s.packets := rfl
@[simp] theorem armEngine_chirp : (armEngine o n s).chirp = s.chirp := rfl

end ArmEngine

section LatchArg
variable (a : Half) (d : Dir) (s : State)

@[simp] theorem latchArg_par : (latchArg a d s).par = s.par := rfl
@[simp] theorem latchArg_done : (latchArg a d s).done = s.done := rfl
@[simp] theorem latchArg_err : (latchArg a d s).err = s.err := rfl
@[simp] theorem latchArg_cmdrej : (latchArg a d s).cmdrej = s.cmdrej := rfl
@[simp] theorem latchArg_wign : (latchArg a d s).wign = s.wign := rfl
@[simp] theorem latchArg_msgovf : (latchArg a d s).msgovf = s.msgovf := rfl
@[simp] theorem latchArg_irqen : (latchArg a d s).irqen = s.irqen := rfl
@[simp] theorem latchArg_fs : (latchArg a d s).fs = s.fs := rfl
@[simp] theorem latchArg_bw : (latchArg a d s).bw = s.bw := rfl
@[simp] theorem latchArg_f0 : (latchArg a d s).f0 = s.f0 := rfl
@[simp] theorem latchArg_mode : (latchArg a d s).mode = s.mode := rfl
@[simp] theorem latchArg_plen : (latchArg a d s).plen = s.plen := rfl
@[simp] theorem latchArg_pmask : (latchArg a d s).pmask = s.pmask := rfl
@[simp] theorem latchArg_nsamp : (latchArg a d s).nsamp = s.nsamp := rfl
@[simp] theorem latchArg_msglen : (latchArg a d s).msglen = s.msglen := rfl
@[simp] theorem latchArg_msgbuf : (latchArg a d s).msgbuf = s.msgbuf := rfl
@[simp] theorem latchArg_nsym : (latchArg a d s).nsym = s.nsym := rfl
@[simp] theorem latchArg_symbuf : (latchArg a d s).symbuf = s.symbuf := rfl
@[simp] theorem latchArg_result : (latchArg a d s).result = s.result := rfl
@[simp] theorem latchArg_errcode : (latchArg a d s).errcode = s.errcode := rfl
@[simp] theorem latchArg_erridx : (latchArg a d s).erridx = s.erridx := rfl
@[simp] theorem latchArg_errval : (latchArg a d s).errval = s.errval := rfl
@[simp] theorem latchArg_symidx : (latchArg a d s).symidx = s.symidx := rfl
@[simp] theorem latchArg_eng : (latchArg a d s).eng = s.eng := rfl
@[simp] theorem latchArg_opk : (latchArg a d s).opk = s.opk := rfl
@[simp] theorem latchArg_nseg : (latchArg a d s).nseg = s.nseg := rfl
@[simp] theorem latchArg_seg : (latchArg a d s).seg = s.seg := rfl
@[simp] theorem latchArg_k : (latchArg a d s).k = s.k := rfl
@[simp] theorem latchArg_edone : (latchArg a d s).edone = s.edone := rfl
@[simp] theorem latchArg_csym : (latchArg a d s).csym = s.csym := rfl
@[simp] theorem latchArg_cdir : (latchArg a d s).cdir = s.cdir := rfl
@[simp] theorem latchArg_asym : (latchArg a d s).asym = a := rfl
@[simp] theorem latchArg_adir : (latchArg a d s).adir = d := rfl
@[simp] theorem latchArg_acc : (latchArg a d s).acc = s.acc := rfl
@[simp] theorem latchArg_phi : (latchArg a d s).phi = s.phi := rfl
@[simp] theorem latchArg_outq : (latchArg a d s).outq = s.outq := rfl
@[simp] theorem latchArg_free : (latchArg a d s).free = s.free := rfl
@[simp] theorem latchArg_turns : (latchArg a d s).turns = s.turns := rfl
@[simp] theorem latchArg_program : (latchArg a d s).program = s.program := rfl
@[simp] theorem latchArg_reads : (latchArg a d s).reads = s.reads := rfl
@[simp] theorem latchArg_received : (latchArg a d s).received = s.received := rfl
@[simp] theorem latchArg_packets : (latchArg a d s).packets = s.packets := rfl
@[simp] theorem latchArg_chirp : (latchArg a d s).chirp = s.chirp := rfl

end LatchArg

section LatchSymbols
variable (l : List Nat) (s : State)

@[simp] theorem latchSymbols_par : (latchSymbols l s).par = s.par := rfl
@[simp] theorem latchSymbols_done : (latchSymbols l s).done = s.done := rfl
@[simp] theorem latchSymbols_err : (latchSymbols l s).err = s.err := rfl
@[simp] theorem latchSymbols_cmdrej : (latchSymbols l s).cmdrej = s.cmdrej := rfl
@[simp] theorem latchSymbols_wign : (latchSymbols l s).wign = s.wign := rfl
@[simp] theorem latchSymbols_msgovf : (latchSymbols l s).msgovf = s.msgovf := rfl
@[simp] theorem latchSymbols_irqen : (latchSymbols l s).irqen = s.irqen := rfl
@[simp] theorem latchSymbols_fs : (latchSymbols l s).fs = s.fs := rfl
@[simp] theorem latchSymbols_bw : (latchSymbols l s).bw = s.bw := rfl
@[simp] theorem latchSymbols_f0 : (latchSymbols l s).f0 = s.f0 := rfl
@[simp] theorem latchSymbols_mode : (latchSymbols l s).mode = s.mode := rfl
@[simp] theorem latchSymbols_plen : (latchSymbols l s).plen = s.plen := rfl
@[simp] theorem latchSymbols_pmask : (latchSymbols l s).pmask = s.pmask := rfl
@[simp] theorem latchSymbols_nsamp : (latchSymbols l s).nsamp = s.nsamp := rfl
@[simp] theorem latchSymbols_msglen : (latchSymbols l s).msglen = s.msglen := rfl
@[simp] theorem latchSymbols_msgbuf : (latchSymbols l s).msgbuf = s.msgbuf := rfl
@[simp] theorem latchSymbols_nsym : (latchSymbols l s).nsym = BitVec.ofNat 16 l.length := rfl
@[simp] theorem latchSymbols_symbuf : (latchSymbols l s).symbuf = Memory.writeAll s.symbuf 0 (l.map (BitVec.ofNat 16)) := rfl
@[simp] theorem latchSymbols_result : (latchSymbols l s).result = s.result := rfl
@[simp] theorem latchSymbols_errcode : (latchSymbols l s).errcode = s.errcode := rfl
@[simp] theorem latchSymbols_erridx : (latchSymbols l s).erridx = s.erridx := rfl
@[simp] theorem latchSymbols_errval : (latchSymbols l s).errval = s.errval := rfl
@[simp] theorem latchSymbols_symidx : (latchSymbols l s).symidx = s.symidx := rfl
@[simp] theorem latchSymbols_eng : (latchSymbols l s).eng = s.eng := rfl
@[simp] theorem latchSymbols_opk : (latchSymbols l s).opk = s.opk := rfl
@[simp] theorem latchSymbols_nseg : (latchSymbols l s).nseg = s.nseg := rfl
@[simp] theorem latchSymbols_seg : (latchSymbols l s).seg = s.seg := rfl
@[simp] theorem latchSymbols_k : (latchSymbols l s).k = s.k := rfl
@[simp] theorem latchSymbols_edone : (latchSymbols l s).edone = s.edone := rfl
@[simp] theorem latchSymbols_csym : (latchSymbols l s).csym = s.csym := rfl
@[simp] theorem latchSymbols_cdir : (latchSymbols l s).cdir = s.cdir := rfl
@[simp] theorem latchSymbols_asym : (latchSymbols l s).asym = s.asym := rfl
@[simp] theorem latchSymbols_adir : (latchSymbols l s).adir = s.adir := rfl
@[simp] theorem latchSymbols_acc : (latchSymbols l s).acc = s.acc := rfl
@[simp] theorem latchSymbols_phi : (latchSymbols l s).phi = s.phi := rfl
@[simp] theorem latchSymbols_outq : (latchSymbols l s).outq = s.outq := rfl
@[simp] theorem latchSymbols_free : (latchSymbols l s).free = s.free := rfl
@[simp] theorem latchSymbols_turns : (latchSymbols l s).turns = s.turns := rfl
@[simp] theorem latchSymbols_program : (latchSymbols l s).program = s.program := rfl
@[simp] theorem latchSymbols_reads : (latchSymbols l s).reads = s.reads := rfl
@[simp] theorem latchSymbols_received : (latchSymbols l s).received = s.received := rfl
@[simp] theorem latchSymbols_packets : (latchSymbols l s).packets = s.packets := rfl
@[simp] theorem latchSymbols_chirp : (latchSymbols l s).chirp = s.chirp := rfl

end LatchSymbols

section AppendByte
variable (b : Byte) (s : State)

@[simp] theorem appendByte_par : (appendByte b s).par = s.par := rfl
@[simp] theorem appendByte_done : (appendByte b s).done = s.done := rfl
@[simp] theorem appendByte_err : (appendByte b s).err = s.err := rfl
@[simp] theorem appendByte_cmdrej : (appendByte b s).cmdrej = s.cmdrej := rfl
@[simp] theorem appendByte_wign : (appendByte b s).wign = s.wign := rfl
@[simp] theorem appendByte_msgovf : (appendByte b s).msgovf = s.msgovf := rfl
@[simp] theorem appendByte_irqen : (appendByte b s).irqen = s.irqen := rfl
@[simp] theorem appendByte_fs : (appendByte b s).fs = s.fs := rfl
@[simp] theorem appendByte_bw : (appendByte b s).bw = s.bw := rfl
@[simp] theorem appendByte_f0 : (appendByte b s).f0 = s.f0 := rfl
@[simp] theorem appendByte_mode : (appendByte b s).mode = s.mode := rfl
@[simp] theorem appendByte_plen : (appendByte b s).plen = s.plen := rfl
@[simp] theorem appendByte_pmask : (appendByte b s).pmask = s.pmask := rfl
@[simp] theorem appendByte_nsamp : (appendByte b s).nsamp = s.nsamp := rfl
@[simp] theorem appendByte_msglen : (appendByte b s).msglen = s.msglen + 1 := rfl
@[simp] theorem appendByte_msgbuf : (appendByte b s).msgbuf = Memory.write s.msgbuf s.msglen.toNat b := rfl
@[simp] theorem appendByte_nsym : (appendByte b s).nsym = s.nsym := rfl
@[simp] theorem appendByte_symbuf : (appendByte b s).symbuf = s.symbuf := rfl
@[simp] theorem appendByte_result : (appendByte b s).result = s.result := rfl
@[simp] theorem appendByte_errcode : (appendByte b s).errcode = s.errcode := rfl
@[simp] theorem appendByte_erridx : (appendByte b s).erridx = s.erridx := rfl
@[simp] theorem appendByte_errval : (appendByte b s).errval = s.errval := rfl
@[simp] theorem appendByte_symidx : (appendByte b s).symidx = s.symidx := rfl
@[simp] theorem appendByte_eng : (appendByte b s).eng = s.eng := rfl
@[simp] theorem appendByte_opk : (appendByte b s).opk = s.opk := rfl
@[simp] theorem appendByte_nseg : (appendByte b s).nseg = s.nseg := rfl
@[simp] theorem appendByte_seg : (appendByte b s).seg = s.seg := rfl
@[simp] theorem appendByte_k : (appendByte b s).k = s.k := rfl
@[simp] theorem appendByte_edone : (appendByte b s).edone = s.edone := rfl
@[simp] theorem appendByte_csym : (appendByte b s).csym = s.csym := rfl
@[simp] theorem appendByte_cdir : (appendByte b s).cdir = s.cdir := rfl
@[simp] theorem appendByte_asym : (appendByte b s).asym = s.asym := rfl
@[simp] theorem appendByte_adir : (appendByte b s).adir = s.adir := rfl
@[simp] theorem appendByte_acc : (appendByte b s).acc = s.acc := rfl
@[simp] theorem appendByte_phi : (appendByte b s).phi = s.phi := rfl
@[simp] theorem appendByte_outq : (appendByte b s).outq = s.outq := rfl
@[simp] theorem appendByte_free : (appendByte b s).free = s.free := rfl
@[simp] theorem appendByte_turns : (appendByte b s).turns = s.turns := rfl
@[simp] theorem appendByte_program : (appendByte b s).program = s.program := rfl
@[simp] theorem appendByte_reads : (appendByte b s).reads = s.reads := rfl
@[simp] theorem appendByte_received : (appendByte b s).received = s.received := rfl
@[simp] theorem appendByte_packets : (appendByte b s).packets = s.packets := rfl
@[simp] theorem appendByte_chirp : (appendByte b s).chirp = s.chirp := rfl

end AppendByte

section Advance
variable (s : State)

@[simp] theorem advance_par : (advance s).par = s.par := rfl
@[simp] theorem advance_done : (advance s).done = s.done := rfl
@[simp] theorem advance_err : (advance s).err = s.err := rfl
@[simp] theorem advance_cmdrej : (advance s).cmdrej = s.cmdrej := rfl
@[simp] theorem advance_wign : (advance s).wign = s.wign := rfl
@[simp] theorem advance_msgovf : (advance s).msgovf = s.msgovf := rfl
@[simp] theorem advance_irqen : (advance s).irqen = s.irqen := rfl
@[simp] theorem advance_fs : (advance s).fs = s.fs := rfl
@[simp] theorem advance_bw : (advance s).bw = s.bw := rfl
@[simp] theorem advance_f0 : (advance s).f0 = s.f0 := rfl
@[simp] theorem advance_mode : (advance s).mode = s.mode := rfl
@[simp] theorem advance_plen : (advance s).plen = s.plen := rfl
@[simp] theorem advance_pmask : (advance s).pmask = s.pmask := rfl
@[simp] theorem advance_nsamp : (advance s).nsamp = s.nsamp := rfl
@[simp] theorem advance_msglen : (advance s).msglen = s.msglen := rfl
@[simp] theorem advance_msgbuf : (advance s).msgbuf = s.msgbuf := rfl
@[simp] theorem advance_nsym : (advance s).nsym = s.nsym := rfl
@[simp] theorem advance_symbuf : (advance s).symbuf = s.symbuf := rfl
@[simp] theorem advance_result : (advance s).result = s.result := rfl
@[simp] theorem advance_errcode : (advance s).errcode = s.errcode := rfl
@[simp] theorem advance_erridx : (advance s).erridx = s.erridx := rfl
@[simp] theorem advance_errval : (advance s).errval = s.errval := rfl
@[simp] theorem advance_symidx : (advance s).symidx = s.symidx := rfl
@[simp] theorem advance_eng : (advance s).eng = s.eng := rfl
@[simp] theorem advance_opk : (advance s).opk = s.opk := rfl
@[simp] theorem advance_nseg : (advance s).nseg = s.nseg := rfl
@[simp] theorem advance_seg : (advance s).seg = s.seg := rfl
@[simp] theorem advance_k : (advance s).k = s.k + 1 := rfl
@[simp] theorem advance_edone : (advance s).edone = s.edone := rfl
@[simp] theorem advance_csym : (advance s).csym = s.csym := rfl
@[simp] theorem advance_cdir : (advance s).cdir = s.cdir := rfl
@[simp] theorem advance_asym : (advance s).asym = s.asym := rfl
@[simp] theorem advance_adir : (advance s).adir = s.adir := rfl
@[simp] theorem advance_acc : (advance s).acc = shiftNext s.chirp s.acc := rfl
@[simp] theorem advance_phi : (advance s).phi = phaseNext s.chirp s.cdir s.acc s.phi := rfl
@[simp] theorem advance_outq : (advance s).outq = s.outq ++ [currentSample s] := rfl
@[simp] theorem advance_free : (advance s).free = s.free := rfl
@[simp] theorem advance_turns : (advance s).turns = s.turns := rfl
@[simp] theorem advance_program : (advance s).program = s.program := rfl
@[simp] theorem advance_reads : (advance s).reads = s.reads := rfl
@[simp] theorem advance_received : (advance s).received = s.received := rfl
@[simp] theorem advance_packets : (advance s).packets = s.packets := rfl
@[simp] theorem advance_chirp : (advance s).chirp = s.chirp := rfl

end Advance

section CountSegment
variable (s : State)

@[simp] theorem countSegment_par : (countSegment s).par = s.par := rfl
@[simp] theorem countSegment_done : (countSegment s).done = s.done := rfl
@[simp] theorem countSegment_err : (countSegment s).err = s.err := rfl
@[simp] theorem countSegment_cmdrej : (countSegment s).cmdrej = s.cmdrej := rfl
@[simp] theorem countSegment_wign : (countSegment s).wign = s.wign := rfl
@[simp] theorem countSegment_msgovf : (countSegment s).msgovf = s.msgovf := rfl
@[simp] theorem countSegment_irqen : (countSegment s).irqen = s.irqen := rfl
@[simp] theorem countSegment_fs : (countSegment s).fs = s.fs := rfl
@[simp] theorem countSegment_bw : (countSegment s).bw = s.bw := rfl
@[simp] theorem countSegment_f0 : (countSegment s).f0 = s.f0 := rfl
@[simp] theorem countSegment_mode : (countSegment s).mode = s.mode := rfl
@[simp] theorem countSegment_plen : (countSegment s).plen = s.plen := rfl
@[simp] theorem countSegment_pmask : (countSegment s).pmask = s.pmask := rfl
@[simp] theorem countSegment_nsamp : (countSegment s).nsamp = s.nsamp := rfl
@[simp] theorem countSegment_msglen : (countSegment s).msglen = s.msglen := rfl
@[simp] theorem countSegment_msgbuf : (countSegment s).msgbuf = s.msgbuf := rfl
@[simp] theorem countSegment_nsym : (countSegment s).nsym = s.nsym := rfl
@[simp] theorem countSegment_symbuf : (countSegment s).symbuf = s.symbuf := rfl
@[simp] theorem countSegment_result : (countSegment s).result = s.result := rfl
@[simp] theorem countSegment_errcode : (countSegment s).errcode = s.errcode := rfl
@[simp] theorem countSegment_erridx : (countSegment s).erridx = s.erridx := rfl
@[simp] theorem countSegment_errval : (countSegment s).errval = s.errval := rfl
@[simp] theorem countSegment_symidx : (countSegment s).symidx = s.symidx := rfl
@[simp] theorem countSegment_eng : (countSegment s).eng = s.eng := rfl
@[simp] theorem countSegment_opk : (countSegment s).opk = s.opk := rfl
@[simp] theorem countSegment_nseg : (countSegment s).nseg = s.nseg := rfl
@[simp] theorem countSegment_seg : (countSegment s).seg = s.seg + 1 := rfl
@[simp] theorem countSegment_k : (countSegment s).k = s.k := rfl
@[simp] theorem countSegment_edone : (countSegment s).edone = s.edone := rfl
@[simp] theorem countSegment_csym : (countSegment s).csym = s.csym := rfl
@[simp] theorem countSegment_cdir : (countSegment s).cdir = s.cdir := rfl
@[simp] theorem countSegment_asym : (countSegment s).asym = s.asym := rfl
@[simp] theorem countSegment_adir : (countSegment s).adir = s.adir := rfl
@[simp] theorem countSegment_acc : (countSegment s).acc = s.acc := rfl
@[simp] theorem countSegment_phi : (countSegment s).phi = s.phi := rfl
@[simp] theorem countSegment_outq : (countSegment s).outq = s.outq := rfl
@[simp] theorem countSegment_free : (countSegment s).free = s.free := rfl
@[simp] theorem countSegment_turns : (countSegment s).turns = s.turns := rfl
@[simp] theorem countSegment_program : (countSegment s).program = s.program := rfl
@[simp] theorem countSegment_reads : (countSegment s).reads = s.reads := rfl
@[simp] theorem countSegment_received : (countSegment s).received = s.received := rfl
@[simp] theorem countSegment_packets : (countSegment s).packets = s.packets := rfl
@[simp] theorem countSegment_chirp : (countSegment s).chirp = s.chirp := rfl

end CountSegment

section SetEdone
variable (s : State)

@[simp] theorem setEdone_par : (setEdone s).par = s.par := rfl
@[simp] theorem setEdone_done : (setEdone s).done = s.done := rfl
@[simp] theorem setEdone_err : (setEdone s).err = s.err := rfl
@[simp] theorem setEdone_cmdrej : (setEdone s).cmdrej = s.cmdrej := rfl
@[simp] theorem setEdone_wign : (setEdone s).wign = s.wign := rfl
@[simp] theorem setEdone_msgovf : (setEdone s).msgovf = s.msgovf := rfl
@[simp] theorem setEdone_irqen : (setEdone s).irqen = s.irqen := rfl
@[simp] theorem setEdone_fs : (setEdone s).fs = s.fs := rfl
@[simp] theorem setEdone_bw : (setEdone s).bw = s.bw := rfl
@[simp] theorem setEdone_f0 : (setEdone s).f0 = s.f0 := rfl
@[simp] theorem setEdone_mode : (setEdone s).mode = s.mode := rfl
@[simp] theorem setEdone_plen : (setEdone s).plen = s.plen := rfl
@[simp] theorem setEdone_pmask : (setEdone s).pmask = s.pmask := rfl
@[simp] theorem setEdone_nsamp : (setEdone s).nsamp = s.nsamp := rfl
@[simp] theorem setEdone_msglen : (setEdone s).msglen = s.msglen := rfl
@[simp] theorem setEdone_msgbuf : (setEdone s).msgbuf = s.msgbuf := rfl
@[simp] theorem setEdone_nsym : (setEdone s).nsym = s.nsym := rfl
@[simp] theorem setEdone_symbuf : (setEdone s).symbuf = s.symbuf := rfl
@[simp] theorem setEdone_result : (setEdone s).result = s.result := rfl
@[simp] theorem setEdone_errcode : (setEdone s).errcode = s.errcode := rfl
@[simp] theorem setEdone_erridx : (setEdone s).erridx = s.erridx := rfl
@[simp] theorem setEdone_errval : (setEdone s).errval = s.errval := rfl
@[simp] theorem setEdone_symidx : (setEdone s).symidx = s.symidx := rfl
@[simp] theorem setEdone_eng : (setEdone s).eng = s.eng := rfl
@[simp] theorem setEdone_opk : (setEdone s).opk = s.opk := rfl
@[simp] theorem setEdone_nseg : (setEdone s).nseg = s.nseg := rfl
@[simp] theorem setEdone_seg : (setEdone s).seg = s.seg := rfl
@[simp] theorem setEdone_k : (setEdone s).k = 0 := rfl
@[simp] theorem setEdone_edone : (setEdone s).edone = true := rfl
@[simp] theorem setEdone_csym : (setEdone s).csym = s.csym := rfl
@[simp] theorem setEdone_cdir : (setEdone s).cdir = s.cdir := rfl
@[simp] theorem setEdone_asym : (setEdone s).asym = s.asym := rfl
@[simp] theorem setEdone_adir : (setEdone s).adir = s.adir := rfl
@[simp] theorem setEdone_acc : (setEdone s).acc = s.acc := rfl
@[simp] theorem setEdone_phi : (setEdone s).phi = s.phi := rfl
@[simp] theorem setEdone_outq : (setEdone s).outq = s.outq := rfl
@[simp] theorem setEdone_free : (setEdone s).free = s.free := rfl
@[simp] theorem setEdone_turns : (setEdone s).turns = s.turns := rfl
@[simp] theorem setEdone_program : (setEdone s).program = s.program := rfl
@[simp] theorem setEdone_reads : (setEdone s).reads = s.reads := rfl
@[simp] theorem setEdone_received : (setEdone s).received = s.received := rfl
@[simp] theorem setEdone_packets : (setEdone s).packets = s.packets := rfl
@[simp] theorem setEdone_chirp : (setEdone s).chirp = s.chirp := rfl

end SetEdone

section Complete
variable (s : State)

@[simp] theorem complete_par : (complete s).par = s.par := rfl
@[simp] theorem complete_done : (complete s).done = true := rfl
@[simp] theorem complete_err : (complete s).err = s.err := rfl
@[simp] theorem complete_cmdrej : (complete s).cmdrej = s.cmdrej := rfl
@[simp] theorem complete_wign : (complete s).wign = s.wign := rfl
@[simp] theorem complete_msgovf : (complete s).msgovf = s.msgovf := rfl
@[simp] theorem complete_irqen : (complete s).irqen = s.irqen := rfl
@[simp] theorem complete_fs : (complete s).fs = s.fs := rfl
@[simp] theorem complete_bw : (complete s).bw = s.bw := rfl
@[simp] theorem complete_f0 : (complete s).f0 = s.f0 := rfl
@[simp] theorem complete_mode : (complete s).mode = s.mode := rfl
@[simp] theorem complete_plen : (complete s).plen = s.plen := rfl
@[simp] theorem complete_pmask : (complete s).pmask = s.pmask := rfl
@[simp] theorem complete_nsamp : (complete s).nsamp = s.nsamp := rfl
@[simp] theorem complete_msglen : (complete s).msglen = s.msglen := rfl
@[simp] theorem complete_msgbuf : (complete s).msgbuf = s.msgbuf := rfl
@[simp] theorem complete_nsym : (complete s).nsym = s.nsym := rfl
@[simp] theorem complete_symbuf : (complete s).symbuf = s.symbuf := rfl
@[simp] theorem complete_result : (complete s).result = s.result := rfl
@[simp] theorem complete_errcode : (complete s).errcode = s.errcode := rfl
@[simp] theorem complete_erridx : (complete s).erridx = s.erridx := rfl
@[simp] theorem complete_errval : (complete s).errval = s.errval := rfl
@[simp] theorem complete_symidx : (complete s).symidx = s.symidx := rfl
@[simp] theorem complete_eng : (complete s).eng = .idle := rfl
@[simp] theorem complete_opk : (complete s).opk = s.opk := rfl
@[simp] theorem complete_nseg : (complete s).nseg = s.nseg := rfl
@[simp] theorem complete_seg : (complete s).seg = s.seg := rfl
@[simp] theorem complete_k : (complete s).k = s.k := rfl
@[simp] theorem complete_edone : (complete s).edone = s.edone := rfl
@[simp] theorem complete_csym : (complete s).csym = s.csym := rfl
@[simp] theorem complete_cdir : (complete s).cdir = s.cdir := rfl
@[simp] theorem complete_asym : (complete s).asym = s.asym := rfl
@[simp] theorem complete_adir : (complete s).adir = s.adir := rfl
@[simp] theorem complete_acc : (complete s).acc = s.acc := rfl
@[simp] theorem complete_phi : (complete s).phi = s.phi := rfl
@[simp] theorem complete_outq : (complete s).outq = s.outq := rfl
@[simp] theorem complete_free : (complete s).free = s.free := rfl
@[simp] theorem complete_turns : (complete s).turns = s.turns := rfl
@[simp] theorem complete_program : (complete s).program = s.program := rfl
@[simp] theorem complete_reads : (complete s).reads = s.reads := rfl
@[simp] theorem complete_received : (complete s).received = s.received := rfl
@[simp] theorem complete_packets : (complete s).packets = s.packets := rfl
@[simp] theorem complete_chirp : (complete s).chirp = s.chirp := rfl

end Complete

section NoteRead
variable (v : Word) (s : State)

@[simp] theorem noteRead_par : (noteRead v s).par = s.par := rfl
@[simp] theorem noteRead_done : (noteRead v s).done = s.done := rfl
@[simp] theorem noteRead_err : (noteRead v s).err = s.err := rfl
@[simp] theorem noteRead_cmdrej : (noteRead v s).cmdrej = s.cmdrej := rfl
@[simp] theorem noteRead_wign : (noteRead v s).wign = s.wign := rfl
@[simp] theorem noteRead_msgovf : (noteRead v s).msgovf = s.msgovf := rfl
@[simp] theorem noteRead_irqen : (noteRead v s).irqen = s.irqen := rfl
@[simp] theorem noteRead_fs : (noteRead v s).fs = s.fs := rfl
@[simp] theorem noteRead_bw : (noteRead v s).bw = s.bw := rfl
@[simp] theorem noteRead_f0 : (noteRead v s).f0 = s.f0 := rfl
@[simp] theorem noteRead_mode : (noteRead v s).mode = s.mode := rfl
@[simp] theorem noteRead_plen : (noteRead v s).plen = s.plen := rfl
@[simp] theorem noteRead_pmask : (noteRead v s).pmask = s.pmask := rfl
@[simp] theorem noteRead_nsamp : (noteRead v s).nsamp = s.nsamp := rfl
@[simp] theorem noteRead_msglen : (noteRead v s).msglen = s.msglen := rfl
@[simp] theorem noteRead_msgbuf : (noteRead v s).msgbuf = s.msgbuf := rfl
@[simp] theorem noteRead_nsym : (noteRead v s).nsym = s.nsym := rfl
@[simp] theorem noteRead_symbuf : (noteRead v s).symbuf = s.symbuf := rfl
@[simp] theorem noteRead_result : (noteRead v s).result = s.result := rfl
@[simp] theorem noteRead_errcode : (noteRead v s).errcode = s.errcode := rfl
@[simp] theorem noteRead_erridx : (noteRead v s).erridx = s.erridx := rfl
@[simp] theorem noteRead_errval : (noteRead v s).errval = s.errval := rfl
@[simp] theorem noteRead_symidx : (noteRead v s).symidx = s.symidx := rfl
@[simp] theorem noteRead_eng : (noteRead v s).eng = s.eng := rfl
@[simp] theorem noteRead_opk : (noteRead v s).opk = s.opk := rfl
@[simp] theorem noteRead_nseg : (noteRead v s).nseg = s.nseg := rfl
@[simp] theorem noteRead_seg : (noteRead v s).seg = s.seg := rfl
@[simp] theorem noteRead_k : (noteRead v s).k = s.k := rfl
@[simp] theorem noteRead_edone : (noteRead v s).edone = s.edone := rfl
@[simp] theorem noteRead_csym : (noteRead v s).csym = s.csym := rfl
@[simp] theorem noteRead_cdir : (noteRead v s).cdir = s.cdir := rfl
@[simp] theorem noteRead_asym : (noteRead v s).asym = s.asym := rfl
@[simp] theorem noteRead_adir : (noteRead v s).adir = s.adir := rfl
@[simp] theorem noteRead_acc : (noteRead v s).acc = s.acc := rfl
@[simp] theorem noteRead_phi : (noteRead v s).phi = s.phi := rfl
@[simp] theorem noteRead_outq : (noteRead v s).outq = s.outq := rfl
@[simp] theorem noteRead_free : (noteRead v s).free = s.free := rfl
@[simp] theorem noteRead_turns : (noteRead v s).turns = s.turns := rfl
@[simp] theorem noteRead_program : (noteRead v s).program = s.program := rfl
@[simp] theorem noteRead_reads : (noteRead v s).reads = v :: s.reads := rfl
@[simp] theorem noteRead_received : (noteRead v s).received = s.received := rfl
@[simp] theorem noteRead_packets : (noteRead v s).packets = s.packets := rfl
@[simp] theorem noteRead_chirp : (noteRead v s).chirp = s.chirp := rfl

end NoteRead

section PopOp
variable (p : List HostOp) (s : State)

@[simp] theorem popOp_par : (popOp p s).par = s.par := rfl
@[simp] theorem popOp_done : (popOp p s).done = s.done := rfl
@[simp] theorem popOp_err : (popOp p s).err = s.err := rfl
@[simp] theorem popOp_cmdrej : (popOp p s).cmdrej = s.cmdrej := rfl
@[simp] theorem popOp_wign : (popOp p s).wign = s.wign := rfl
@[simp] theorem popOp_msgovf : (popOp p s).msgovf = s.msgovf := rfl
@[simp] theorem popOp_irqen : (popOp p s).irqen = s.irqen := rfl
@[simp] theorem popOp_fs : (popOp p s).fs = s.fs := rfl
@[simp] theorem popOp_bw : (popOp p s).bw = s.bw := rfl
@[simp] theorem popOp_f0 : (popOp p s).f0 = s.f0 := rfl
@[simp] theorem popOp_mode : (popOp p s).mode = s.mode := rfl
@[simp] theorem popOp_plen : (popOp p s).plen = s.plen := rfl
@[simp] theorem popOp_pmask : (popOp p s).pmask = s.pmask := rfl
@[simp] theorem popOp_nsamp : (popOp p s).nsamp = s.nsamp := rfl
@[simp] theorem popOp_msglen : (popOp p s).msglen = s.msglen := rfl
@[simp] theorem popOp_msgbuf : (popOp p s).msgbuf = s.msgbuf := rfl
@[simp] theorem popOp_nsym : (popOp p s).nsym = s.nsym := rfl
@[simp] theorem popOp_symbuf : (popOp p s).symbuf = s.symbuf := rfl
@[simp] theorem popOp_result : (popOp p s).result = s.result := rfl
@[simp] theorem popOp_errcode : (popOp p s).errcode = s.errcode := rfl
@[simp] theorem popOp_erridx : (popOp p s).erridx = s.erridx := rfl
@[simp] theorem popOp_errval : (popOp p s).errval = s.errval := rfl
@[simp] theorem popOp_symidx : (popOp p s).symidx = s.symidx := rfl
@[simp] theorem popOp_eng : (popOp p s).eng = s.eng := rfl
@[simp] theorem popOp_opk : (popOp p s).opk = s.opk := rfl
@[simp] theorem popOp_nseg : (popOp p s).nseg = s.nseg := rfl
@[simp] theorem popOp_seg : (popOp p s).seg = s.seg := rfl
@[simp] theorem popOp_k : (popOp p s).k = s.k := rfl
@[simp] theorem popOp_edone : (popOp p s).edone = s.edone := rfl
@[simp] theorem popOp_csym : (popOp p s).csym = s.csym := rfl
@[simp] theorem popOp_cdir : (popOp p s).cdir = s.cdir := rfl
@[simp] theorem popOp_asym : (popOp p s).asym = s.asym := rfl
@[simp] theorem popOp_adir : (popOp p s).adir = s.adir := rfl
@[simp] theorem popOp_acc : (popOp p s).acc = s.acc := rfl
@[simp] theorem popOp_phi : (popOp p s).phi = s.phi := rfl
@[simp] theorem popOp_outq : (popOp p s).outq = s.outq := rfl
@[simp] theorem popOp_free : (popOp p s).free = s.free := rfl
@[simp] theorem popOp_turns : (popOp p s).turns = s.turns := rfl
@[simp] theorem popOp_program : (popOp p s).program = p := rfl
@[simp] theorem popOp_reads : (popOp p s).reads = s.reads := rfl
@[simp] theorem popOp_received : (popOp p s).received = s.received := rfl
@[simp] theorem popOp_packets : (popOp p s).packets = s.packets := rfl
@[simp] theorem popOp_chirp : (popOp p s).chirp = s.chirp := rfl

end PopOp

section PopTurn
variable (l : List Agent) (s : State)

@[simp] theorem popTurn_par : (popTurn l s).par = s.par := rfl
@[simp] theorem popTurn_done : (popTurn l s).done = s.done := rfl
@[simp] theorem popTurn_err : (popTurn l s).err = s.err := rfl
@[simp] theorem popTurn_cmdrej : (popTurn l s).cmdrej = s.cmdrej := rfl
@[simp] theorem popTurn_wign : (popTurn l s).wign = s.wign := rfl
@[simp] theorem popTurn_msgovf : (popTurn l s).msgovf = s.msgovf := rfl
@[simp] theorem popTurn_irqen : (popTurn l s).irqen = s.irqen := rfl
@[simp] theorem popTurn_fs : (popTurn l s).fs = s.fs := rfl
@[simp] theorem popTurn_bw : (popTurn l s).bw = s.bw := rfl
@[simp] theorem popTurn_f0 : (popTurn l s).f0 = s.f0 := rfl
@[simp] theorem popTurn_mode : (popTurn l s).mode = s.mode := rfl
@[simp] theorem popTurn_plen : (popTurn l s).plen = s.plen := rfl
@[simp] theorem popTurn_pmask : (popTurn l s).pmask = s.pmask := rfl
@[simp] theorem popTurn_nsamp : (popTurn l s).nsamp = s.nsamp := rfl
@[simp] theorem popTurn_msglen : (popTurn l s).msglen = s.msglen := rfl
@[simp] theorem popTurn_msgbuf : (popTurn l s).msgbuf = s.msgbuf := rfl
@[simp] theorem popTurn_nsym : (popTurn l s).nsym = s.nsym := rfl
@[simp] theorem popTurn_symbuf : (popTurn l s).symbuf = s.symbuf := rfl
@[simp] theorem popTurn_result : (popTurn l s).result = s.result := rfl
@[simp] theorem popTurn_errcode : (popTurn l s).errcode = s.errcode := rfl
@[simp] theorem popTurn_erridx : (popTurn l s).erridx = s.erridx := rfl
@[simp] theorem popTurn_errval : (popTurn l s).errval = s.errval := rfl
@[simp] theorem popTurn_symidx : (popTurn l s).symidx = s.symidx := rfl
@[simp] theorem popTurn_eng : (popTurn l s).eng = s.eng := rfl
@[simp] theorem popTurn_opk : (popTurn l s).opk = s.opk := rfl
@[simp] theorem popTurn_nseg : (popTurn l s).nseg = s.nseg := rfl
@[simp] theorem popTurn_seg : (popTurn l s).seg = s.seg := rfl
@[simp] theorem popTurn_k : (popTurn l s).k = s.k := rfl
@[simp] theorem popTurn_edone : (popTurn l s).edone = s.edone := rfl
@[simp] theorem popTurn_csym : (popTurn l s).csym = s.csym := rfl
@[simp] theorem popTurn_cdir : (popTurn l s).cdir = s.cdir := rfl
@[simp] theorem popTurn_asym : (popTurn l s).asym = s.asym := rfl
@[simp] theorem popTurn_adir : (popTurn l s).adir = s.adir := rfl
@[simp] theorem popTurn_acc : (popTurn l s).acc = s.acc := rfl
@[simp] theorem popTurn_phi : (popTurn l s).phi = s.phi := rfl
@[simp] theorem popTurn_outq : (popTurn l s).outq = s.outq := rfl
@[simp] theorem popTurn_free : (popTurn l s).free = s.free := rfl
@[simp] theorem popTurn_turns : (popTurn l s).turns = l := rfl
@[simp] theorem popTurn_program : (popTurn l s).program = s.program := rfl
@[simp] theorem popTurn_reads : (popTurn l s).reads = s.reads := rfl
@[simp] theorem popTurn_received : (popTurn l s).received = s.received := rfl
@[simp] theorem popTurn_packets : (popTurn l s).packets = s.packets := rfl
@[simp] theorem popTurn_chirp : (popTurn l s).chirp = s.chirp := rfl

end PopTurn

section LeaveArgFree
variable (s : State)

@[simp] theorem leaveArgFree_par : (leaveArgFree s).par = s.par := rfl
@[simp] theorem leaveArgFree_done : (leaveArgFree s).done = s.done := rfl
@[simp] theorem leaveArgFree_err : (leaveArgFree s).err = s.err := rfl
@[simp] theorem leaveArgFree_cmdrej : (leaveArgFree s).cmdrej = s.cmdrej := rfl
@[simp] theorem leaveArgFree_wign : (leaveArgFree s).wign = s.wign := rfl
@[simp] theorem leaveArgFree_msgovf : (leaveArgFree s).msgovf = s.msgovf := rfl
@[simp] theorem leaveArgFree_irqen : (leaveArgFree s).irqen = s.irqen := rfl
@[simp] theorem leaveArgFree_fs : (leaveArgFree s).fs = s.fs := rfl
@[simp] theorem leaveArgFree_bw : (leaveArgFree s).bw = s.bw := rfl
@[simp] theorem leaveArgFree_f0 : (leaveArgFree s).f0 = s.f0 := rfl
@[simp] theorem leaveArgFree_mode : (leaveArgFree s).mode = s.mode := rfl
@[simp] theorem leaveArgFree_plen : (leaveArgFree s).plen = s.plen := rfl
@[simp] theorem leaveArgFree_pmask : (leaveArgFree s).pmask = s.pmask := rfl
@[simp] theorem leaveArgFree_nsamp : (leaveArgFree s).nsamp = s.nsamp := rfl
@[simp] theorem leaveArgFree_msglen : (leaveArgFree s).msglen = s.msglen := rfl
@[simp] theorem leaveArgFree_msgbuf : (leaveArgFree s).msgbuf = s.msgbuf := rfl
@[simp] theorem leaveArgFree_nsym : (leaveArgFree s).nsym = s.nsym := rfl
@[simp] theorem leaveArgFree_symbuf : (leaveArgFree s).symbuf = s.symbuf := rfl
@[simp] theorem leaveArgFree_result : (leaveArgFree s).result = s.result := rfl
@[simp] theorem leaveArgFree_errcode : (leaveArgFree s).errcode = s.errcode := rfl
@[simp] theorem leaveArgFree_erridx : (leaveArgFree s).erridx = s.erridx := rfl
@[simp] theorem leaveArgFree_errval : (leaveArgFree s).errval = s.errval := rfl
@[simp] theorem leaveArgFree_symidx : (leaveArgFree s).symidx = s.symidx := rfl
@[simp] theorem leaveArgFree_eng : (leaveArgFree s).eng = s.eng := rfl
@[simp] theorem leaveArgFree_opk : (leaveArgFree s).opk = s.opk := rfl
@[simp] theorem leaveArgFree_nseg : (leaveArgFree s).nseg = s.nseg := rfl
@[simp] theorem leaveArgFree_seg : (leaveArgFree s).seg = s.seg := rfl
@[simp] theorem leaveArgFree_k : (leaveArgFree s).k = s.k := rfl
@[simp] theorem leaveArgFree_edone : (leaveArgFree s).edone = s.edone := rfl
@[simp] theorem leaveArgFree_csym : (leaveArgFree s).csym = s.csym := rfl
@[simp] theorem leaveArgFree_cdir : (leaveArgFree s).cdir = s.cdir := rfl
@[simp] theorem leaveArgFree_asym : (leaveArgFree s).asym = Config.freeSymbol s.free := rfl
@[simp] theorem leaveArgFree_adir : (leaveArgFree s).adir = freeDir s.free := rfl
@[simp] theorem leaveArgFree_acc : (leaveArgFree s).acc = s.acc := rfl
@[simp] theorem leaveArgFree_phi : (leaveArgFree s).phi = s.phi := rfl
@[simp] theorem leaveArgFree_outq : (leaveArgFree s).outq = s.outq := rfl
@[simp] theorem leaveArgFree_free : (leaveArgFree s).free = s.free + 1 := rfl
@[simp] theorem leaveArgFree_turns : (leaveArgFree s).turns = s.turns := rfl
@[simp] theorem leaveArgFree_program : (leaveArgFree s).program = s.program := rfl
@[simp] theorem leaveArgFree_reads : (leaveArgFree s).reads = s.reads := rfl
@[simp] theorem leaveArgFree_received : (leaveArgFree s).received = s.received := rfl
@[simp] theorem leaveArgFree_packets : (leaveArgFree s).packets = s.packets := rfl
@[simp] theorem leaveArgFree_chirp : (leaveArgFree s).chirp = s.chirp := rfl

end LeaveArgFree

section LeaveSegmentFree
variable (s : State)

@[simp] theorem leaveSegmentFree_par : (leaveSegmentFree s).par = s.par := rfl
@[simp] theorem leaveSegmentFree_done : (leaveSegmentFree s).done = s.done := rfl
@[simp] theorem leaveSegmentFree_err : (leaveSegmentFree s).err = s.err := rfl
@[simp] theorem leaveSegmentFree_cmdrej : (leaveSegmentFree s).cmdrej = s.cmdrej := rfl
@[simp] theorem leaveSegmentFree_wign : (leaveSegmentFree s).wign = s.wign := rfl
@[simp] theorem leaveSegmentFree_msgovf : (leaveSegmentFree s).msgovf = s.msgovf := rfl
@[simp] theorem leaveSegmentFree_irqen : (leaveSegmentFree s).irqen = s.irqen := rfl
@[simp] theorem leaveSegmentFree_fs : (leaveSegmentFree s).fs = s.fs := rfl
@[simp] theorem leaveSegmentFree_bw : (leaveSegmentFree s).bw = s.bw := rfl
@[simp] theorem leaveSegmentFree_f0 : (leaveSegmentFree s).f0 = s.f0 := rfl
@[simp] theorem leaveSegmentFree_mode : (leaveSegmentFree s).mode = s.mode := rfl
@[simp] theorem leaveSegmentFree_plen : (leaveSegmentFree s).plen = s.plen := rfl
@[simp] theorem leaveSegmentFree_pmask : (leaveSegmentFree s).pmask = s.pmask := rfl
@[simp] theorem leaveSegmentFree_nsamp : (leaveSegmentFree s).nsamp = s.nsamp := rfl
@[simp] theorem leaveSegmentFree_msglen : (leaveSegmentFree s).msglen = s.msglen := rfl
@[simp] theorem leaveSegmentFree_msgbuf : (leaveSegmentFree s).msgbuf = s.msgbuf := rfl
@[simp] theorem leaveSegmentFree_nsym : (leaveSegmentFree s).nsym = s.nsym := rfl
@[simp] theorem leaveSegmentFree_symbuf : (leaveSegmentFree s).symbuf = s.symbuf := rfl
@[simp] theorem leaveSegmentFree_result : (leaveSegmentFree s).result = s.result := rfl
@[simp] theorem leaveSegmentFree_errcode : (leaveSegmentFree s).errcode = s.errcode := rfl
@[simp] theorem leaveSegmentFree_erridx : (leaveSegmentFree s).erridx = s.erridx := rfl
@[simp] theorem leaveSegmentFree_errval : (leaveSegmentFree s).errval = s.errval := rfl
@[simp] theorem leaveSegmentFree_symidx : (leaveSegmentFree s).symidx = s.symidx := rfl
@[simp] theorem leaveSegmentFree_eng : (leaveSegmentFree s).eng = s.eng := rfl
@[simp] theorem leaveSegmentFree_opk : (leaveSegmentFree s).opk = s.opk := rfl
@[simp] theorem leaveSegmentFree_nseg : (leaveSegmentFree s).nseg = s.nseg := rfl
@[simp] theorem leaveSegmentFree_seg : (leaveSegmentFree s).seg = s.seg := rfl
@[simp] theorem leaveSegmentFree_k : (leaveSegmentFree s).k = Config.freeIndex s.free % s.nsamp := rfl
@[simp] theorem leaveSegmentFree_edone : (leaveSegmentFree s).edone = s.edone := rfl
@[simp] theorem leaveSegmentFree_csym : (leaveSegmentFree s).csym = Config.freeSymbol s.free := rfl
@[simp] theorem leaveSegmentFree_cdir : (leaveSegmentFree s).cdir = freeDir s.free := rfl
@[simp] theorem leaveSegmentFree_asym : (leaveSegmentFree s).asym = s.asym := rfl
@[simp] theorem leaveSegmentFree_adir : (leaveSegmentFree s).adir = s.adir := rfl
@[simp] theorem leaveSegmentFree_acc : (leaveSegmentFree s).acc = Config.freeShift s.free % modulusM s.chirp := rfl
@[simp] theorem leaveSegmentFree_phi : (leaveSegmentFree s).phi = Config.freePhase s.free % modulusD s.chirp := rfl
@[simp] theorem leaveSegmentFree_outq : (leaveSegmentFree s).outq = s.outq := rfl
@[simp] theorem leaveSegmentFree_free : (leaveSegmentFree s).free = s.free + 1 := rfl
@[simp] theorem leaveSegmentFree_turns : (leaveSegmentFree s).turns = s.turns := rfl
@[simp] theorem leaveSegmentFree_program : (leaveSegmentFree s).program = s.program := rfl
@[simp] theorem leaveSegmentFree_reads : (leaveSegmentFree s).reads = s.reads := rfl
@[simp] theorem leaveSegmentFree_received : (leaveSegmentFree s).received = s.received := rfl
@[simp] theorem leaveSegmentFree_packets : (leaveSegmentFree s).packets = s.packets := rfl
@[simp] theorem leaveSegmentFree_chirp : (leaveSegmentFree s).chirp = s.chirp := rfl

end LeaveSegmentFree

end Sys2Proof.Machine
end

