-- ==== Sys2Proof/Laws/Ops.lean ====
section
/-! SUPPORT. What each shared operation can do, said once: loading a segment, accepting an operation, the checks,
the write lock, pushing a byte. -/

namespace Sys2Proof.Machine

open Sys2Proof

/-- `chirp` reads FS, BW, F0 and MODE only. -/
theorem chirp_congr {s t : State} (hfs : s.fs = t.fs) (hbw : s.bw = t.bw) (hf0 : s.f0 = t.f0)
    (hm : s.mode = t.mode) : s.chirp = t.chirp := by
  simp [State.chirp, State.sf, hfs, hbw, hf0, hm]

/-- If LoadSeg(j) answers a next state, Slot(j) exists and the segment starts at its symbol with phase 0. -/
theorem loadSeg_next {j : Nat} {s t : State} (h : loadSeg j s = .next t) :
    ∃ sym dir, slotOf s j = some (sym, dir) ∧
      t = setSegment sym dir s := by
  unfold loadSeg at h
  split at h
  · next sym dir hs => exact ⟨sym, dir, hs, by injection h with h; exact h.symm⟩
  · cases h

/-- LoadSeg(j) faults only where Slot(j) does not exist. -/
theorem loadSeg_some {j : Nat} {s : State} {sym : Half} {dir : Dir} (h : slotOf s j = some (sym, dir)) :
    loadSeg j s = .next (setSegment sym dir s) := by
  simp [loadSeg, h]

/-- If the engine's initialisation answers a next state, the operation has no segment or segment 0 is loaded. -/
theorem engineInit_next {s t : State} (h : engineInit s = .next t) :
    (s.nseg = 0 ∧ t = leaveSegmentFree (rewind true s)) ∨
    (s.nseg ≠ 0 ∧ loadSeg 0 (rewind false s) = .next t) := by
  unfold engineInit at h
  split at h
  · next h0 => exact .inl ⟨h0, by injection h with h; exact h.symm⟩
  · next h0 => exact .inr ⟨h0, h⟩

/-- A SYNTH writes DIR and ARG, raises or is rejected, and is accepted otherwise. -/
theorem synth_next {dir : Dir} {arg : Half} {s t : State} (h : synth dir arg s = .next t) :
    (s.eng = .run ∧ t = reject .cmdrej s) ∨
    (s.eng = .idle ∧ ∃ c, synthError arg s = some c ∧ t = raiseError c s) ∨
    (s.eng = .idle ∧ synthError arg s = none ∧ accept .one 1 (latchArg arg dir s) = .next t) := by
  unfold synth at h
  split at h
  · next hr => exact .inl ⟨hr, by injection h with h; exact h.symm⟩
  · next hr =>
    have hi : s.eng = .idle := by cases he : s.eng <;> simp_all
    split at h
    · next c hc => exact .inr (.inl ⟨hi, c, hc, by injection h with h; exact h.symm⟩)
    · next hc => exact .inr (.inr ⟨hi, hc, h⟩)

/-- A START is rejected, raises, or is accepted with the message's symbols latched. -/
theorem execStart_next {s t : State} (h : execStart s = .next t) :
    (s.eng = .run ∧ t = reject .cmdrej s) ∨
    (s.eng = .idle ∧ ∃ c, startError s = some c ∧ t = raiseError c s) ∨
    (s.eng = .idle ∧ startError s = none ∧
      accept .pkt (BitVec.ofNat 17 (s.plen.toNat + s.symbols.length)) (leaveArgFree (latchSymbols s.symbols s)) =
        .next t) := by
  unfold execStart at h
  split at h
  · next hr => exact .inl ⟨hr, by injection h with h; exact h.symm⟩
  · next hr =>
    have hi : s.eng = .idle := by cases he : s.eng <;> simp_all
    split at h
    · next c hc => exact .inr (.inl ⟨hi, c, hc, by injection h with h; exact h.symm⟩)
    · next hc => exact .inr (.inr ⟨hi, hc, h⟩)

/-- CheckConfig() raises nothing exactly when its five conditions hold. -/
theorem configError_none_iff (s : State) : configError s = none ↔ ConfigOk s := by
  unfold configError
  constructor
  · intro h
    split at h
    · cases h
    · split at h
      · cases h
      · split at h
        · cases h
        · split at h
          · cases h
          · split at h
            · cases h
            · next h1 h2 h3 h4 h5 => exact ⟨by omega, by omega, h3, h4, h5⟩
  · rintro ⟨h1, h2, h3, h4, h5⟩
    rw [if_neg (by omega), if_neg (by omega), if_neg h3, if_neg h4, if_neg h5]

/-- The first symbol out of range: there is none exactly when all are in range. -/
theorem firstOutOfRange_none_iff (b : Nat) (l : List Nat) :
    ∀ i, firstOutOfRange b i l = none ↔ ∀ v ∈ l, v < b := by
  induction l with
  | nil => simp [firstOutOfRange]
  | cons v l ih =>
    intro i
    by_cases h : b ≤ v
    · simp [firstOutOfRange, h]
    · simpa [firstOutOfRange, h, ih (i + 1)] using fun _ => Nat.lt_of_not_le h

/-- START raises nothing exactly when every check passes. -/
theorem startError_none_iff (s : State) :
    startError s = none ↔ ConfigOk s ∧ MaskOk s ∧ ValuesOk s ∧ SymbolsOk s := by
  have hp : permError s = none ↔ modePerm s.mode ≠ 3 := by
    unfold permError; split <;> simp_all
  have hl : plenError s = none ↔ s.plen.toNat ≤ s.par.pmax := by
    unfold plenError; split <;> simp_all
  have hk : kindError s = none ↔ ∀ j < s.plen.toNat, slotKind (s.slotWord j) ≠ 3 := by
    simp [kindError, List.findSome?_eq_none_iff]
  have hv : valueError s = none ↔ ValuesOk s := by
    simp [valueError, ValuesOk, List.findSome?_eq_none_iff]
  have hs : symbolError s = none ↔ SymbolsOk s := by
    simp only [symbolError, Option.map_eq_none_iff, firstOutOfRange_none_iff]
    rfl
  simp only [startError, Option.or_eq_none_iff, configError_none_iff, hp, hl, hk, hv, hs]
  constructor
  · rintro ⟨h1, h2, h3, h4, h5, h6⟩
    exact ⟨h1, ⟨h2, h3, h4⟩, h5, h6⟩
  · rintro ⟨h1, ⟨h2, h3, h4⟩, h5, h6⟩
    exact ⟨h1, h2, h3, h4, h5, h6⟩

/-- SYNTH raises nothing exactly when CheckConfig() returns and ARG is a symbol. -/
theorem synthError_none_iff (arg : Half) (s : State) :
    synthError arg s = none ↔ ConfigOk s ∧ arg.toNat < 2 ^ s.sf := by
  simp [synthError, Option.or_eq_none_iff, configError_none_iff]

/-- A locked write either is the write or only sets WIGN. -/
theorem lockedWrite_cases (s t : State) :
    (s.eng = .run ∧ lockedWrite s t = reject .wign s) ∨ (s.eng = .idle ∧ lockedWrite s t = t) := by
  unfold lockedWrite
  cases h : s.eng <;> simp

/-- A push is dropped under the lock, dropped for want of room, or appends its byte. -/
theorem pushMessage_cases (v : Word) (s : State) :
    (s.eng = .run ∧ pushMessage v s = reject .wign s) ∨
    (s.eng = .idle ∧ s.msglen.toNat = s.par.msgMax ∧ pushMessage v s = reject .msgovf s) ∨
    (s.eng = .idle ∧ s.msglen.toNat ≠ s.par.msgMax ∧ pushMessage v s =
      appendByte (v.setWidth 8) s) := by
  unfold pushMessage
  cases h : s.eng
  · by_cases hm : s.msglen.toNat = s.par.msgMax <;> simp [hm]
  · simp

end Sys2Proof.Machine
end

