-- ==== Sys2Proof/Laws/PerInstr.lean ====
section
/-! SUPPORT. Family TableRow: the word of a well-formed command has the bits its row of the opcode table fixes. -/

namespace Sys2Proof.Laws.TableRow

open Sys2Proof

/-- "match" and "mask" of the row, on the command's own word. -/
def Statement (i : Instr) : Prop := i.wf = true → encode i &&& rowMask i = rowMatch i

theorem nop : Statement .nop := fun _ => by decide

theorem start : Statement .start := fun _ => by decide

/-- A mask below bit 16 does not see ARG. -/
theorem and_low (op : BitVec 4) (dir : BitVec 1) (arg : Half) (m : Word) (hm : m.toNat < 2 ^ 16) :
    commandWord op dir arg &&& m = commandWord op dir 0 &&& m := by
  have hz : ∀ i, 16 ≤ i → m.getLsbD i = false := by
    intro i hi
    rw [BitVec.getLsbD, Nat.testBit_lt_two_pow]
    exact lt_of_lt_of_le hm (Nat.pow_le_pow_right (by norm_num) hi)
  ext i hi
  by_cases h : 16 ≤ i
  · simp [← BitVec.getLsbD_eq_getElem, hz i h]
  · have h1 : i - 4 - 1 < 11 := by omega
    rw [← BitVec.getLsbD_eq_getElem, ← BitVec.getLsbD_eq_getElem, BitVec.getLsbD_and, BitVec.getLsbD_and]
    simp only [commandWord, BitVec.getLsbD_append, h1, if_true]

theorem synthUp (arg : Half) : Statement (.synthUp arg) := fun _ => by
  show commandWord 2 0 arg &&& 0x1F#32 = 0x02#32
  rw [and_low _ _ _ _ (by decide)]; decide

theorem synthDn (arg : Half) : Statement (.synthDn arg) := fun _ => by
  show commandWord 2 1 arg &&& 0x1F#32 = 0x12#32
  rw [and_low _ _ _ _ (by decide)]; decide

theorem grayf (arg : Half) : Statement (.grayf arg) := fun _ => by
  show commandWord 3 0 arg &&& 0x0F#32 = 0x03#32
  rw [and_low _ _ _ _ (by decide)]; decide

theorem grayi (arg : Half) : Statement (.grayi arg) := fun _ => by
  show commandWord 4 0 arg &&& 0x0F#32 = 0x04#32
  rw [and_low _ _ _ _ (by decide)]; decide

theorem msgclr : Statement .msgclr := fun _ => by decide

theorem reserved67 (op : BitVec 4) : Statement (.reserved67 op) := by
  unfold Statement
  revert op
  decide

theorem reserved8F (op : BitVec 4) : Statement (.reserved8F op) := by
  unfold Statement
  revert op
  decide

end Sys2Proof.Laws.TableRow
end

