-- ==== Sys2Proof/Laws/Steps.lean ====
section
/-! SUPPORT. What a turn of each agent can do, said once. -/

namespace Sys2Proof.Machine

open Sys2Proof

/-- An emit step: the record pushed and the accumulators advanced, then the segment boundary or not. -/
theorem emit_next {s t : State} (h : emit s = .next t) :
    s.fs ≠ 0 ∧
    ((s.k + 1 ≠ s.nsamp ∧ t = advance s) ∨
     (s.k + 1 = s.nsamp ∧ s.seg.toNat + 1 = s.nseg.toNat ∧
       t = setEdone (countSegment (advance s))) ∨
     (s.k + 1 = s.nsamp ∧ s.seg.toNat + 1 ≠ s.nseg.toNat ∧
       loadSeg (s.seg.toNat + 1) (countSegment (advance s)) = .next t)) := by
  unfold emit at h
  split at h
  · cases h
  · next hf =>
    refine ⟨hf, ?_⟩
    split at h
    · next hk =>
      by_cases hs : s.seg.toNat + 1 = s.nseg.toNat
      · rw [segmentBoundary, advance_seg, advance_nseg, if_pos hs] at h
        exact .inr (.inl ⟨hk, hs, by injection h with h; exact h.symm⟩)
      · rw [segmentBoundary, advance_seg, advance_nseg, if_neg hs] at h
        exact .inr (.inr ⟨hk, hs, h⟩)
    · next hk => exact .inl ⟨hk, by injection h with h; exact h.symm⟩

/-- The engine's turn emits, completes, or changes nothing. -/
theorem engineStep_cases (s : State) :
    (s.eng = .run ∧ s.edone = false ∧ s.outq.length < s.par.outDepth ∧ engineStep s = emit s) ∨
    (s.eng = .run ∧ s.edone = true ∧ s.outq = [] ∧ engineStep s = .next (complete s)) ∨
    (engineStep s = .next s ∧ (s.eng = .idle ∨ (s.edone = false ∧ s.par.outDepth ≤ s.outq.length) ∨
      (s.edone = true ∧ s.outq ≠ []))) := by
  unfold engineStep emitEnabled completeEnabled
  cases he : s.eng
  · right; right; simp
  · cases hd : s.edone
    · by_cases hl : s.outq.length < s.par.outDepth
      · left; simp [hl]
      · right; right; simp [hl]; omega
    · cases hq : s.outq
      · right; left; simp
      · right; right; simp

/-- The sink's turn takes the head record or, with OUTQ empty, changes nothing. -/
theorem sinkStep_cases (s : State) :
    (s.outq = [] ∧ sinkStep s = s) ∨
    (∃ r rest, s.outq = r :: rest ∧ r.last = true ∧
      sinkStep s = { s with outq := rest, packets := s.packets ++ [s.received ++ [r]], received := [] }) ∨
    (∃ r rest, s.outq = r :: rest ∧ r.last = false ∧
      sinkStep s = { s with outq := rest, received := s.received ++ [r] }) := by
  unfold sinkStep
  split
  · next h => exact .inl ⟨h, rfl⟩
  · next r rest h =>
    right
    cases hl : r.last
    · right; exact ⟨r, rest, h, hl, by simp [deliver, hl]⟩
    · left; exact ⟨r, rest, h, hl, by simp [deliver, hl]⟩

/-- A bus write runs a command, stores a register, or does nothing. -/
theorem memWrite_next {a v : Word} {s t : State} (h : memWrite a v s = .next t) :
    (regAt s.par a = some .cmd ∧ exec (decodeWord v) s = .next t) ∨
    (∃ r, regAt s.par a = some r ∧ r ≠ .cmd ∧ t = writeReg r v s) ∨
    (regAt s.par a = none ∧ t = s) := by
  unfold memWrite at h
  split at h
  · next hr => exact .inl ⟨hr, h⟩
  · next r hn hr =>
    exact .inr (.inl ⟨r, hr, by rintro rfl; exact hn rfl, by injection h with h; exact h.symm⟩)
  · next hr => exact .inr (.inr ⟨hr, by injection h with h; exact h.symm⟩)

/-- The host's turn, if it answers a next state: nothing, a read noted, a POLL line kept, or a bus write. -/
theorem hostStep_next {s t : State} (h : hostStep s = .next t) :
    (s.program = [] ∧ t = s) ∨
    (∃ v p, t = noteRead v (popOp p s)) ∨
    (∃ a v rest, s.program = .write a 4 v :: rest ∧ memWrite a v (popOp rest s) = .next t) := by
  unfold hostStep at h
  split at h
  · next hp => exact .inl ⟨hp, by injection h with h; exact h.symm⟩
  · next addr size rest hp =>
    split at h
    · exact .inr (.inl ⟨_, rest, by injection h with h; exact h.symm⟩)
    · cases h
  · next addr size v rest hp =>
    split at h
    · next hz => subst hz; exact .inr (.inr ⟨addr, v, rest, hp, h⟩)
    · cases h
  · next addr mask value rest hp =>
    split at h
    · exact .inr (.inl ⟨_, rest, by injection h with h; exact h.symm⟩)
    · exact .inr (.inl ⟨_, s.program, by injection h with h; exact h.symm⟩)

/-- One step: the first of `turns` moves; with none left, nothing does. -/
theorem step_cases (s : State) :
    (s.turns = [] ∧ step s = .next s) ∨
    (∃ a rest, s.turns = a :: rest ∧ step s = agentStep a (popTurn rest s)) := by
  unfold step takeTurn
  cases h : s.turns
  · exact .inl ⟨rfl, by simp⟩
  · exact .inr ⟨_, _, rfl, by simp⟩

end Sys2Proof.Machine
end

