-- ==== Sys2Proof/Laws/Stream.lean ====
section
/-! SUPPORT. The records of an operation and the stream port that carries them: what a record is, the range of its
fields, the port of an empty and of a non-empty queue. -/

namespace Sys2Proof.Machine

open Sys2Proof

@[simp] theorem sampleOf_phase (w : Nat) (c : ChirpConfig) (phi : Nat) (f l : Bool) :
    (sampleOf w c phi f l).phase = phi := rfl
@[simp] theorem sampleOf_i (w : Nat) (c : ChirpConfig) (phi : Nat) (f l : Bool) :
    (sampleOf w c phi f l).i = Config.ampI w phi (modulusD c) := rfl
@[simp] theorem sampleOf_q (w : Nat) (c : ChirpConfig) (phi : Nat) (f l : Bool) :
    (sampleOf w c phi f l).q = Config.ampQ w phi (modulusD c) := rfl
@[simp] theorem sampleOf_first (w : Nat) (c : ChirpConfig) (phi : Nat) (f l : Bool) :
    (sampleOf w c phi f l).first = f := rfl
@[simp] theorem sampleOf_last (w : Nat) (c : ChirpConfig) (phi : Nat) (f l : Bool) :
    (sampleOf w c phi f l).last = l := rfl

theorem ampI_range (w p d : Nat) :
    -(Config.fullScale w : Int) ≤ Config.ampI w p d ∧ Config.ampI w p d ≤ Config.fullScale w := by
  have h := (Config.ampICode w p d).isLt
  unfold Config.ampI
  omega

theorem ampQ_range (w p d : Nat) :
    -(Config.fullScale w : Int) ≤ Config.ampQ w p d ∧ Config.ampQ w p d ≤ Config.fullScale w := by
  have h := (Config.ampQCode w p d).isLt
  unfold Config.ampQ
  omega

/-- Every phase word of a segment is below D. -/
theorem chirpAt_phase_lt (c : ChirpConfig) (sym : Nat) (dir : Dir) (k : Nat) (h : 0 < c.fs) :
    (chirpAt c sym dir k).2 < modulusD c := by
  have hd : 0 < modulusD c := Nat.mul_pos h (Nat.mul_pos h (Nat.two_pow_pos _))
  cases k with
  | zero => exact hd
  | succ k => exact Nat.mod_lt _ hd

/-- A record of an operation is sample k of the segment of some Slot(j). -/
theorem mem_operationRecords {s : State} {r : Sample} (h : r ∈ operationRecords s) :
    ∃ j k sym dir first last, j < s.nseg.toNat ∧ k < s.nsamp ∧ slotOf s j = some (sym, dir) ∧
      r = sampleOf s.par.outW s.chirp (chirpAt s.chirp sym.toNat dir k).2 first last := by
  simp only [operationRecords, List.mem_flatMap, List.mem_range] at h
  obtain ⟨j, hj, hr⟩ := h
  unfold segmentRecords at hr
  split at hr
  · next sym dir hs =>
    simp only [synthesize, List.mem_map, List.mem_range] at hr
    obtain ⟨k, hk, rfl⟩ := hr
    exact ⟨j, k, sym, dir, _, _, hj, hk, hs, rfl⟩
  · cases hr

theorem streamPort_nil {s : State} (h : s.outq = []) : s.streamPort = none := by
  simp [State.streamPort, h]

theorem streamPort_cons {s : State} {r : Sample} {rest : List Sample} (h : s.outq = r :: rest) :
    s.streamPort = some (BitVec.ofNat s.par.phw r.phase, BitVec.ofInt s.par.outW r.i, BitVec.ofInt s.par.outW r.q,
      r.first, r.last) := by
  simp [State.streamPort, h]

end Sys2Proof.Machine
end

