-- ==== Sys2Proof/Tests/Slice0.lean ====
section
/-! SUPPORT. The model's own tests. Expected values are those of the spec's test vectors (section numbers in the
docstrings) or written out from the encoding rules. The `witness_` theorems show states and operands that meet the
hypotheses of the statements, clause by clause. -/

namespace Sys2Proof.Tests

open Sys2Proof Sys2Proof.Machine

/-! ### WellFormed: the opcode of a reserved row is one of that row's -/

theorem test_wf_refuses_reserved67_low : (Instr.reserved67 5).wf = false := by decide
theorem test_wf_refuses_reserved67_high : (Instr.reserved67 8).wf = false := by decide
theorem test_wf_refuses_reserved8F_low : (Instr.reserved8F 7).wf = false := by decide
theorem test_wf_accepts_edges :
    (Instr.reserved67 6).wf = true ∧ (Instr.reserved67 7).wf = true ∧
    (Instr.reserved8F 8).wf = true ∧ (Instr.reserved8F 15).wf = true := by decide

/-! ### Decode: words written out bit by bit from R80 and R81 -/

theorem test_decode_nop : decodeWord 0b0000_0000_0000_0000_0000_0000_0000_0000#32 = .nop := by decide
theorem test_decode_start : decodeWord 0b0000_0000_0000_0000_0000_0000_0000_0001#32 = .start := by decide
theorem test_decode_synthUp :
    decodeWord 0b0000_0000_0100_0001_0000_0000_0000_0010#32 = .synthUp 65 := by decide
theorem test_decode_synthDn :
    decodeWord 0b0000_0000_0111_1111_0000_0000_0001_0010#32 = .synthDn 127 := by decide
theorem test_decode_grayf :
    decodeWord 0b1111_1111_1111_1111_0000_0000_0000_0011#32 = .grayf 0xFFFF := by decide
theorem test_decode_grayi :
    decodeWord 0b1000_0000_0000_0000_0000_0000_0000_0100#32 = .grayi 0x8000 := by decide
theorem test_decode_msgclr : decodeWord 0b0000_0000_0000_0000_0000_0000_0000_0101#32 = .msgclr := by decide
theorem test_decode_reserved67 :
    decodeWord 0b0000_0000_0000_0000_0000_0000_0000_0111#32 = .reserved67 7 := by decide
theorem test_decode_reserved8F :
    decodeWord 0b0000_0000_0000_0000_0000_0000_0000_1000#32 = .reserved8F 8 := by decide
/-- R84: DIR and bits 15:5 of a GRAYF, every ignored bit of a NOP and of a MSGCLR. -/
theorem test_decode_ignores_bits :
    decodeWord 0x0041FFF3#32 = .grayf 65 ∧ decodeWord 0xFFFFFFF0#32 = .nop ∧ decodeWord 0xFFFFFFF5#32 = .msgclr ∧
    decodeWord 0x0041FFE2#32 = .synthUp 65 := by decide
/-- R92: a command is four bytes. -/
theorem test_decode_refuses_other_lengths :
    decode [0x05#8, 0x00#8] = .error (.wrongLength 2) ∧ decode [] = .error (.wrongLength 0) ∧
    decode [0, 0, 0, 0, 0] = .error (.wrongLength 5) := by decide
/-- R62: little-endian bytes. -/
theorem test_decode_byte_order : decode [0x12#8, 0x00#8, 0x41#8, 0x00#8] = .ok (.synthDn 65) := by decide

/-! ### Helper states -/

/-- The tiny configuration of section 3.2: FS = 4, BW = 4, SF = 2, so N = 4, M = 16, D = 64. -/
def tiny : State := { State.reset with fs := 4, bw := 4, mode := 2 }

/-- The configuration of section 7.3 before line 9: bit partition, PERM 2, mask DN, SYM 1, UP, message B4. -/
def packet : State :=
  { State.reset with
    fs := 4, bw := 4, mode := 0x1202, plen := 3, msgbuf := [(0, 0xB4#8)], msglen := 1
    pmask := [1#32, 0x00010002#32, 0#32] ++ (resetMask 32).drop 3 }

/-- The scenario configuration of section 1.1 with the message "A" and a given MODE. -/
def scenario (mode : Word) : State :=
  { State.reset with fs := 250000, bw := 125000, mode := mode, msgbuf := [(0, 0x41#8)], msglen := 1 }

/-- `tiny` after an accepted SYNTH.UP 3. -/
def running : State :=
  { tiny with
    asym := 3, adir := .up, nsamp := 4, done := false, eng := .run, opk := .one, nseg := 1, seg := 0
    edone := false, csym := 3, cdir := .up, acc := 12, phi := 0, k := 0 }

/-- `running` at its last sample. -/
def lastSample : State := { running with acc := 8, phi := 0, k := 3 }

/-- `running` after its first emit step, that record still in OUTQ. -/
def oneOut : State :=
  { running with
    acc := 0, phi := 48, k := 1
    outq := [{ phase := 0, i := Config.ampI 16 0 64, q := Config.ampQ 16 0 64, first := true, last := false }] }

/-- An operation with no segment, emitted and drained. -/
def drained : State := { tiny with eng := .run, opk := .pkt, plen := 0, nsamp := 4, edone := true }

/-- A packet of two DOWN_CHIRP slots at the last sample of the first. -/
def boundary : State :=
  { tiny with
    plen := 2, nsamp := 4, eng := .run, opk := .pkt, nseg := 2, csym := 0, cdir := .down, acc := 12, phi := 16, k := 3 }

/-- A packet with one payload symbol in its fourth segment, and every KIND in its mask. -/
def everyKind : State :=
  { tiny with
    plen := 4, pmask := [0#32, 1#32, 0x00030002#32, 3#32] ++ (resetMask 32).drop 4
    eng := .run, opk := .pkt, nsym := 1, nseg := 5, symbuf := [(0, 2#16)] }

/-- A state whose next step is a host access. -/
def hosting (op : HostOp) (s : State) : State := { s with turns := [.host], program := [op] }

/-- A record that is not the last one, and one that is. -/
def rec0 : Sample := { phase := 0, i := 1, q := 0, first := true, last := false }
def rec1 : Sample := { phase := 1, i := 0, q := 1, first := false, last := true }

/-! ### Commands, one step each -/

/-- Section 2.4: NOP during a run. -/
theorem test_nop_changes_nothing : exec .nop running = .next running := by rfl
/-- Section 2.2. -/
theorem test_grayf_values :
    (exec (.grayf 65) running = .next { running with result := 0x61 }) ∧
    (exec (.grayf 0x5555) running = .next { running with result := 0x7FFF }) := ⟨by rfl, by rfl⟩
/-- Section 2.2. -/
theorem test_grayi_values :
    (exec (.grayi 97) running = .next { running with result := 0x41 }) ∧
    (exec (.grayi 0xFFFF) running = .next { running with result := 0xAAAA }) := ⟨by rfl, by rfl⟩
/-- R121: the bytes stay. -/
theorem test_msgclr_keeps_bytes : exec .msgclr packet = .next { packet with msglen := 0 } := by rfl
/-- Section 2.4: rejected during a run. -/
theorem test_msgclr_rejected : exec .msgclr running = .next { running with cmdrej := true } := by rfl
/-- Section 2.4: 0x00000007. -/
theorem test_reserved_rejected :
    exec (.reserved67 7) tiny = .next { tiny with cmdrej := true } ∧
    exec (.reserved8F 15) running = .next { running with cmdrej := true } := ⟨by rfl, by rfl⟩
/-- Section 3.2: SYNTH.UP 3 in the tiny configuration. -/
theorem test_synthUp_accepted : exec (.synthUp 3) tiny = .next running := by rfl
/-- Section 7.6 line 39: 0x23 with value 128. -/
theorem test_synthUp_raised :
    exec (.synthUp 128) (scenario 7) = .next (raisedAs 0x23 0 128 (scenario 7)) := by rfl
/-- Section 5: SYNTH does not check PERM; section 2.1: SF above SF_MAX. -/
theorem test_synthDn_checks :
    (∃ t, exec (.synthDn 127) (scenario 0x307) = .next t ∧ t.eng = .run ∧ t.nsamp = 256 ∧ t.cdir = .down) ∧
    exec (.synthDn 0) (scenario 0x30D) = .next (raisedAs 0x15 0 13 (scenario 0x30D)) :=
  ⟨⟨_, rfl, by rfl, by rfl, by rfl⟩, by rfl⟩
/-- Section 7.3: N = 4, symbols 3, 2, 1, 0 (the zero is no cell), 7 segments. -/
theorem test_start_packet :
    ∃ t, exec .start packet = .next t ∧ t.nsamp = 4 ∧ t.nsym = 4 ∧ t.nseg = 7 ∧
      t.symbuf = [(0, 3#16), (1, 2#16), (2, 1#16)] ∧ t.cdir = .down :=
  ⟨_, rfl, by rfl, by rfl, by rfl, by rfl, by rfl⟩
/-- Section 5: SF 6 raises 0x21 with value 65, and SF 6 with PERM 1 with value 97 (section 2.3). -/
theorem test_start_symbol_errors :
    exec .start (scenario 6) = .next (raisedAs 0x21 0 65 (scenario 6)) ∧
    exec .start (scenario 0x106) = .next (raisedAs 0x21 0 97 (scenario 0x106)) := ⟨by rfl, by rfl⟩

/-! ### Arithmetic, encoder, registers, agents -/

/-- Section 2.1: ties to even. -/
theorem test_rhe_ties : rhe 6 4 = 2 ∧ rhe 10 4 = 2 ∧ rhe 14 4 = 4 ∧ rhe 2 4 = 0 ∧ rhe 5644800 3000 = 1882 := by decide
/-- Section 2.3: groups of the message "ABC" at SF = 12, of 0xFF at SF = 5. -/
theorem test_bit_groups :
    bitSymbols [0x41#8, 0x42#8, 0x43#8] 12 = [1044, 579] ∧ bitSymbols [0xFF#8] 5 = [31, 28] ∧ bitSymbols [] 5 = [] := by
  decide
/-- Section 3.2: the phases of UP 3 and DOWN 1 at F0 = 1. -/
theorem test_chirp_phases :
    (List.range 4).map (fun k => (chirpAt ⟨4, 4, 1, 2⟩ 3 .up k).2) = [0, 0, 16, 48] ∧
    (List.range 4).map (fun k => (chirpAt ⟨4, 4, 1, 2⟩ 1 .down k).2) = [0, 0, 48, 16] := by decide
/-- Section 2.4: STATUS = 0x3F, then WR STATUS, 0x3E; and what RES bits of MODE store. -/
theorem test_register_writes :
    statusWord (clearStatus 0x3E
      { running with done := true, err := true, cmdrej := true, wign := true, msgovf := true }) = 1 ∧
    memRead (writeReg .mode 0xFFFFFFFF tiny) 0x01C = 0x131F ∧ memRead tiny 0x013 = 4 ∧ memRead tiny 0x1FC = 0 := by
  decide
/-- Sections 7.2 and 7.4: each error register and counter at its own offset. -/
theorem test_register_reads :
    (let s := raisedAs 0x21 3 0x41 { running with msglen := 7, nsym := 5, result := 0x61, seg := 1, nseg := 9 };
      memRead s 0x03C = 0x21 ∧ memRead s 0x040 = 3 ∧ memRead s 0x044 = 0x41 ∧ memRead s 0x02C = 7 ∧
        memRead s 0x034 = 5 ∧ memRead s 0x038 = 0x61 ∧ memRead s 0x048 = 9 ∧ memRead s 0x04C = 1) := by decide
/-- Section 3.2: the first emit step of UP 3, and its last one. -/
theorem test_engine_emits :
    (∃ t, step { running with turns := [.engine] } = .next t ∧ t.acc = 0 ∧ t.phi = 48 ∧ t.k = 1 ∧
      t.outq.map Sample.phase = [0] ∧ t.outq.map Sample.first = [true]) ∧
    (∃ t, step { lastSample with turns := [.engine] } = .next t ∧ t.seg = 1 ∧ t.k = 0 ∧ t.edone = true ∧
      t.outq.map Sample.last = [true]) :=
  ⟨⟨_, rfl, by rfl, by rfl, by rfl, by rfl, by rfl⟩, ⟨_, rfl, by rfl, by rfl, by rfl, by rfl⟩⟩
/-- R200: a reset step in the middle of a packet drops what the sink has not received whole. -/
theorem test_reset_drops_partial_packet :
    ∃ t, step { oneOut with turns := [.reset], received := [rec0] } = .next t ∧ t.outq = [] ∧ t.received = [] ∧
      t.eng = .idle ∧ t.plen = 8 := ⟨_, rfl, by rfl, by rfl, by rfl, by rfl⟩
theorem test_reset_memories_wf : Memory.wf State.reset.msgbuf ∧ Memory.wf State.reset.symbuf := by decide
/-- Writing what an unlisted cell reads as removes the cell. -/
theorem test_memory_canonical :
    Memory.write [(1, 5#8), (3, 7#8)] 3 0 = [(1, 5#8)] ∧ Memory.write [(1, 5#8)] 0 9 = [(0, 9#8), (1, 5#8)] := by decide
/-- R94: the bus operations of lines 4, 6 and 7 of section 7.3. -/
theorem test_assembler_lines :
    hostProgram [.setmode 2 2 1, .slot 1 (.sym 1), .cmd .start] =
      [.write 0x01C 4 0x1202, .write 0x104 4 0x00010002, .write 0x008 4 1] := by decide

/-! ### Witnesses: the hypotheses of the statements can be met -/

theorem witness_wellformed_commands :
    (Instr.synthDn 0xFFFF).wf = true ∧ (Instr.reserved67 7).wf = true ∧ (Instr.reserved8F 8).wf = true ∧
    0xFFFFFFF8#32 &&& rowMask (.reserved8F 8) = rowMatch (.reserved8F 8) := by decide
/-- WordFieldsSelectCommand: one word for each clause. -/
theorem witness_word_fields :
    (0xFFFFFFF0#32).toNat % 16 = 0 ∧ (0x1#32).toNat % 16 = 1 ∧
    ((0x00410002#32).toNat % 16 = 2 ∧ (0x00410002#32).toNat / 16 % 2 = 0) ∧
    ((0x00410012#32).toNat % 16 = 2 ∧ (0x00410012#32).toNat / 16 % 2 = 1) ∧
    (0xFFFFFFF3#32).toNat % 16 = 3 ∧ (0x4#32).toNat % 16 = 4 ∧ (0x5#32).toNat % 16 = 5 ∧
    (0x6#32).toNat % 16 = 6 ∧ (0x7#32).toNat % 16 = 7 ∧ (0x8#32).toNat % 16 = 8 ∧ (0xFFFFFFFF#32).toNat % 16 = 15 := by
  decide
/-- AssemblerWritesTableWords: operands at both ends, one too large, an unknown mnemonic. -/
theorem witness_assembler :
    parseOperand ['0'] = some 0 ∧ parseOperand ['6', '5', '5', '3', '5'] = some 65535 ∧
    parseOperand ['0', 'x', '4', '1'] = some 65 ∧ parseOperand ['6', '5', '5', '3', '6'] = some 65536 ∧
    ("HALT" ≠ "NOP" ∧ "HALT" ≠ "START" ∧ "HALT" ≠ "SYNTH.UP" ∧ "HALT" ≠ "SYNTH.DN" ∧ "HALT" ≠ "GRAYF" ∧
      "HALT" ≠ "GRAYI" ∧ "HALT" ≠ "MSGCLR") := by decide
/-- AssemblerWritesTableWords: digits of both bases, and texts that are no operand. -/
theorem witness_assembler_operands :
    ([0, 9] ≠ ([] : List Nat) ∧ ∀ d ∈ [0, 9], d < 10) ∧
    ([(15, true), (10, false)] ≠ ([] : List (Nat × Bool)) ∧ ∀ d ∈ [(15, true), (10, false)], d.1 < 16) ∧
    (∃ c ∈ ['-', '5'], ¬('0' ≤ c ∧ c ≤ '9')) ∧
    (∃ c ∈ ['g'], ¬(('0' ≤ c ∧ c ≤ '9') ∨ ('a' ≤ c ∧ c ≤ 'f') ∨ ('A' ≤ c ∧ c ≤ 'F'))) ∧
    parseOperand ['-', '5'] = none :=
  ⟨by decide, by decide, ⟨'-', List.mem_cons_self, by decide⟩, ⟨'g', List.mem_cons_self, by decide⟩, by decide⟩
theorem witness_assembler_decimal : ∀ rest, ['-', '5'] ≠ '0' :: 'x' :: rest := by
  intro rest h
  exact absurd (List.head_eq_of_cons_eq h) (by decide)
theorem witness_written_command :
    (hosting (.write 0x00A 4 (encode (.synthUp 3))) tiny).turns = [.host] ∧
    (hosting (.write 0x00A 4 (encode (.synthUp 3))) tiny).program = [.write 0x00A 4 (encode (.synthUp 3))] ∧
    wordIndex 0x00A = 2 ∧ (Instr.synthUp 3).wf = true := by decide
theorem witness_placed_command :
    decodeTableWord 32 0x00030002 = some (.synthUp 3) ∧ decodeTableWord 0 0xFF = some .nop ∧
    decodeTableWord 8 0x15 = some .msgclr := by decide
theorem witness_opcode_fields :
    (0xFFFFFFF0#32).extractLsb' 0 4 = 0#4 ∧ 6 ≤ ((0x6#32).extractLsb' 0 4).toNat := by decide
theorem witness_gray_width : (1 : Nat) ≤ 16 ∧ 65535 < 2 ^ 16 := by decide
theorem witness_engines : tiny.eng = .idle ∧ running.eng = .run := by decide
theorem witness_busy : (statusWord running).getLsbD 0 = true := by decide

theorem configOk_tiny : ConfigOk tiny := ⟨by decide, by decide, by decide, by decide, by decide⟩
theorem configOk_packet : ConfigOk packet := ⟨by decide, by decide, by decide, by decide, by decide⟩
theorem configOk_scenario : ConfigOk (scenario 7) := ⟨by decide, by decide, by decide, by decide, by decide⟩
theorem configOk_scenario6 : ConfigOk (scenario 6) := ⟨by decide, by decide, by decide, by decide, by decide⟩

/-- SynthAccepted: the greatest symbol; SynthArgumentError: the next value. -/
theorem witness_synth_bounds :
    ConfigOk tiny ∧ tiny.eng = .idle ∧ (3 : Half).toNat < 2 ^ tiny.sf ∧ 2 ^ tiny.sf ≤ (4 : Half).toNat :=
  ⟨configOk_tiny, by decide, by decide, by decide⟩
/-- ConfigurationErrorsInOrder: each clause, at its boundary. -/
theorem witness_configuration_errors :
    State.reset.sf < 1 ∧
    (1 ≤ (scenario 13).sf ∧ (scenario 13).par.sfMax < (scenario 13).sf) ∧
    (1 ≤ ({ tiny with bw := 0 } : State).sf ∧ ({ tiny with bw := 0 } : State).sf ≤ tiny.par.sfMax) ∧
    (1 ≤ ({ tiny with fs := 0 } : State).sf ∧ ({ tiny with fs := 0 } : State).bw ≠ 0) ∧
    (let s : State := { tiny with fs := 1, bw := 4, mode := 1 };
      1 ≤ s.sf ∧ s.sf ≤ s.par.sfMax ∧ s.bw ≠ 0 ∧ s.fs ≠ 0 ∧ rhe (s.fs.toNat * 2 ^ s.sf) s.bw.toNat = 0) ∧
    (let s : State := { tiny with fs := 1, bw := 3, mode := 1 };
      1 ≤ s.sf ∧ s.sf ≤ s.par.sfMax ∧ s.bw ≠ 0 ∧ s.fs ≠ 0 ∧ rhe (s.fs.toNat * 2 ^ s.sf) s.bw.toNat ≠ 0) ∧
    (1 ≤ (scenario 12).sf ∧ (scenario 12).sf ≤ (scenario 12).par.sfMax) := by decide

/-- The mask of section 5 with a reserved KIND in slot 1 and a large literal in slot 2. -/
def badMask (d1 d2 : Word) : State :=
  { scenario 7 with plen := 3, pmask := [1#32, d1, d2] ++ (resetMask 32).drop 3 }

theorem configOk_badMask (d1 d2 : Word) : ConfigOk (badMask d1 d2) :=
  ⟨configOk_scenario.sf_low, configOk_scenario.sf_high, configOk_scenario.bw_pos, configOk_scenario.fs_pos,
    configOk_scenario.n_pos⟩
theorem maskOk_badMask : MaskOk (badMask 0 0x00800002) := ⟨by decide, by decide, by decide⟩
theorem maskOk_scenario6 : MaskOk (scenario 6) := ⟨by decide, by decide, by decide⟩
theorem valuesOk_scenario6 : ValuesOk (scenario 6) := by unfold ValuesOk; decide

/-- StartChecksInOrder: PERM, PLEN, KIND. -/
theorem witness_start_checks :
    (let s := scenario 0x307;
      s.eng = .idle ∧ ConfigOk s ∧ modePerm s.mode = 3) ∧
    (let s : State := { scenario 7 with plen := 33 };
      s.eng = .idle ∧ ConfigOk s ∧ modePerm s.mode ≠ 3 ∧ s.par.pmax < s.plen.toNat) ∧
    (let s := badMask 0x00050003 0x00800002;
      s.eng = .idle ∧ ConfigOk s ∧ modePerm s.mode ≠ 3 ∧ s.plen.toNat ≤ s.par.pmax ∧ 1 < s.plen.toNat ∧
        slotKind (s.slotWord 1) = 3 ∧ ∀ i < 1, slotKind (s.slotWord i) ≠ 3) :=
  ⟨⟨by decide, ⟨by decide, by decide, by decide, by decide, by decide⟩, by decide⟩,
    ⟨by decide, ⟨by decide, by decide, by decide, by decide, by decide⟩, by decide, by decide⟩,
    by decide, configOk_badMask _ _, by decide, by decide, by decide, by decide, by decide⟩
/-- StartChecksInOrder: the literal of 2^SF in slot 2. -/
theorem witness_start_literal :
    let s := badMask 0 0x00800002;
    s.eng = .idle ∧ ConfigOk s ∧ MaskOk s ∧ 2 < s.plen.toNat ∧ slotKind (s.slotWord 2) = 2 ∧
      2 ^ s.sf ≤ (slotValue (s.slotWord 2)).toNat ∧
      ∀ i < 2, slotKind (s.slotWord i) = 2 → (slotValue (s.slotWord i)).toNat < 2 ^ s.sf :=
  ⟨by decide, configOk_badMask _ _, maskOk_badMask, by decide, by decide, by decide, by decide⟩
/-- StartChecksInOrder: the message symbol 65 at SF = 6. -/
theorem witness_start_symbol :
    let s := scenario 6;
    s.eng = .idle ∧ ConfigOk s ∧ MaskOk s ∧ ValuesOk s ∧ s.symbols[0]? = some 65 ∧ 2 ^ s.sf ≤ 65 ∧
      ∀ j < 0, ∀ u, s.symbols[j]? = some u → u < 2 ^ s.sf :=
  ⟨by decide, configOk_scenario6, maskOk_scenario6, valuesOk_scenario6, by decide, by decide,
    fun _ h => absurd h (Nat.not_lt_zero _)⟩

/-- `packet` with another mask: one slot `d`, or none. -/
def oneSlot (n : BitVec 8) (d : Word) : State :=
  { packet with plen := n, pmask := d :: (resetMask 32).drop 1 }

theorem maskOk_oneSlot :
    MaskOk (oneSlot 0 0) ∧ MaskOk (oneSlot 1 0) ∧ MaskOk (oneSlot 1 1) ∧ MaskOk (oneSlot 1 0x00030002) :=
  ⟨⟨by decide, by decide, by decide⟩, ⟨by decide, by decide, by decide⟩, ⟨by decide, by decide, by decide⟩,
    ⟨by decide, by decide, by decide⟩⟩
theorem valuesOk_oneSlot :
    ValuesOk (oneSlot 0 0) ∧ ValuesOk (oneSlot 1 0) ∧ ValuesOk (oneSlot 1 1) ∧ ValuesOk (oneSlot 1 0x00030002) := by
  unfold ValuesOk; decide
theorem symbolsOk_oneSlot (n : BitVec 8) (d : Word) : SymbolsOk (oneSlot n d) := by
  show ∀ v ∈ packet.symbols, v < 2 ^ packet.sf
  decide
theorem configOk_oneSlot (n : BitVec 8) (d : Word) : ConfigOk (oneSlot n d) :=
  ⟨configOk_packet.sf_low, configOk_packet.sf_high, configOk_packet.bw_pos, configOk_packet.fs_pos, configOk_packet.n_pos⟩

/-- The hypotheses of StartAccepted. -/
def StartReady (s : State) : Prop :=
  s.par.admissible ∧ s.msglen.toNat ≤ s.par.msgMax ∧ Memory.wf s.symbuf ∧ s.eng = .idle ∧
    ConfigOk s ∧ MaskOk s ∧ ValuesOk s ∧ SymbolsOk s ∧ 0 < s.plen.toNat + s.symbols.length

/-- StartAccepted: no preamble slot, and one of each KIND, the literal the greatest symbol. -/
theorem witness_start_accepted :
    (StartReady (oneSlot 0 0) ∧ (oneSlot 0 0).plen = 0) ∧
    (StartReady (oneSlot 1 0) ∧ (oneSlot 1 0).plen ≠ 0 ∧ slotKind ((oneSlot 1 0).slotWord 0) = 0) ∧
    (StartReady (oneSlot 1 1) ∧ slotKind ((oneSlot 1 1).slotWord 0) = 1) ∧
    (StartReady (oneSlot 1 0x00030002) ∧ slotKind ((oneSlot 1 0x00030002).slotWord 0) = 2) := by
  have h : ∀ n d, MaskOk (oneSlot n d) → ValuesOk (oneSlot n d) →
      0 < (oneSlot n d).plen.toNat + (oneSlot n d).symbols.length → StartReady (oneSlot n d) := fun n d hm hv hn =>
    ⟨show packet.par.admissible by decide, show packet.msglen.toNat ≤ packet.par.msgMax by decide,
      show Memory.wf packet.symbuf by decide, rfl, configOk_oneSlot n d, hm, hv, symbolsOk_oneSlot n d, hn⟩
  obtain ⟨m1, m2, m3, m4⟩ := maskOk_oneSlot
  obtain ⟨v1, v2, v3, v4⟩ := valuesOk_oneSlot
  exact ⟨⟨h _ _ m1 v1 (by decide), by decide⟩, ⟨h _ _ m2 v2 (by decide), by decide, by decide⟩,
    ⟨h _ _ m3 v3 (by decide), by decide⟩, ⟨h _ _ m4 v4 (by decide), by decide⟩⟩
theorem witness_start_without_segments :
    let s : State := { tiny with plen := 0 };
    s.eng = .idle ∧ ConfigOk s ∧ modePerm s.mode ≠ 3 ∧ s.plen = 0 ∧ s.msglen = 0 ∧ s.outq = [] :=
  ⟨by decide, ⟨by decide, by decide, by decide, by decide, by decide⟩, by decide, by decide, by decide, by decide⟩
/-- StartAndSynthHaveThreeOutcomes and RaisedCommandRaisesAgain: rejected, raised, accepted. -/
theorem witness_three_outcomes :
    exec .start running = .next { running with cmdrej := true } ∧
    (∃ t, exec .start State.reset = .next t ∧ t.eng = .idle) ∧
    exec (.synthUp 3) tiny = .next running := ⟨by rfl, ⟨_, rfl, by rfl⟩, by rfl⟩

/-- HostTurnIsOneBusAccess and EveryAccessIsAWordAccess: a read, a write, a POLL line on either side, another size. -/
theorem witness_host_turns :
    (hosting (.read 0x010 4) tiny).turns = [.host] ∧
    (hosting (.read 0x010 4) tiny).program = [.read 0x010 4] ∧
    (hosting (.write 0x010 4 8) tiny).program = [.write 0x010 4 8] ∧
    memRead tiny 0x004 &&& 1 = 0 ∧ memRead running 0x004 &&& 1 ≠ 0 ∧
    (hosting (.write 0x010 3 8) tiny).program = [.write 0x010 3 8] ∧ (3 : Nat) ≠ 4 ∧ (5 : Nat) ≠ 4 ∧
    (0x010#32).toNat / 4 = (0x013#32).toNat / 4 := by decide
/-- RegisterMap, and the parameters at both ends of their ranges. -/
theorem witness_register_map :
    Config.defaultParams.admissible ∧
    (31 < tiny.par.pmax ∧ tiny.pmask[4]? = some 1 ∧ tiny.pmask[31]? = some 0 ∧ tiny.par.admissible) ∧
    (⟨1, 8, 1, 2, 1, 0⟩ : Config.Params).admissible ∧ (⟨15, 64, 8191, 32, 1, 0⟩ : Config.Params).admissible ∧
    (∀ i, Reg.pmask 31 = .pmask i → i < Config.defaultParams.pmax) ∧
    (∀ r : Reg, (∀ i, r = .pmask i → i < Config.defaultParams.pmax) → regOffset r ≠ 0x180) ∧
    (∀ r : Reg, (∀ i, r = .pmask i → i < Config.defaultParams.pmax) → regOffset r ≠ 0x058) := by
  refine ⟨by decide, by decide, by decide, by decide, ?_, ?_, ?_⟩
  · intro i h; cases h; decide
  · intro r h
    cases r with
    | pmask i => have := h i rfl; simp only [regOffset, Config.defaultParams] at *; omega
    | _ => decide
  · intro r h
    cases r with
    | pmask i => simp only [regOffset]; omega
    | _ => decide
/-- AccessesWithNoEffect, RegisterStores, WriteLockDuringRun: the edges of the ranges. -/
theorem witness_register_accesses :
    tiny.par.admissible ∧ tiny.pmask.length = tiny.par.pmax ∧ running.par.admissible ∧
    (22 ≤ 22 ∧ 22 < 64) ∧ (22 ≤ 63 ∧ 63 < 64) ∧ (64 + tiny.par.pmax ≤ 96 ∧ 96 < 128) ∧
    (64 + tiny.par.pmax ≤ 127 ∧ 127 < 128) ∧ 0 < tiny.par.pmax ∧ 31 < tiny.par.pmax := by decide
/-- MessagePush: the lock, a full buffer, the last free byte. -/
theorem witness_message_push :
    running.eng = .run ∧
    ({ tiny with msglen := 256 } : State).msglen.toNat = tiny.par.msgMax ∧
    ({ tiny with msglen := 255 } : State).msglen.toNat < tiny.par.msgMax ∧ Memory.wf tiny.msgbuf ∧
    tiny.eng = .idle ∧ tiny.par.admissible := by decide
/-- SymbolReadback: the last symbol, and the first index past it. -/
theorem witness_symbol_readback :
    everyKind.symidx.toNat < everyKind.nsym.toNat ∧
    everyKind.nsym.toNat ≤ ({ everyKind with symidx := 1 } : State).symidx.toNat := by decide
/-- SegmentLengthReadback: the greatest N of the defaults (section 2.1). -/
theorem witness_segment_length :
    ({ tiny with nsamp := 17592186040320 } : State).nsamp < 2 ^ tiny.par.nw ∧ tiny.par.admissible := by decide +kernel
/-- RawModeSymbols: each PERM; BitPartitionSymbols: each PERM, the last group. -/
theorem witness_encodings :
    (modeEnc (scenario 7).mode = false ∧ 0 < (scenario 7).msglen.toNat ∧ modePerm (scenario 7).mode = 0) ∧
    (modeEnc (scenario 0x107).mode = false ∧ modePerm (scenario 0x107).mode = 1) ∧
    (modeEnc (scenario 0x207).mode = false ∧ modePerm (scenario 0x207).mode = 2) ∧
    (let s : State := scenario 0x1003;
      modeEnc s.mode = true ∧ modePerm s.mode = 0 ∧ 1 ≤ s.sf ∧ (bitSymbols s.message s.sf)[2]? = some 2 ∧ 0 < s.sf) ∧
    (let s : State := scenario 0x1103;
      modeEnc s.mode = true ∧ modePerm s.mode = 1 ∧ 1 ≤ s.sf ∧ (bitSymbols s.message s.sf)[2]? = some 2) ∧
    (let s : State := packet;
      modeEnc s.mode = true ∧ modePerm s.mode = 2 ∧ 1 ≤ s.sf ∧ (bitSymbols s.message s.sf)[3]? = some 0) := by decide
/-- SymbolRangeConsequences: bit-partition mode at SF = 1, raw mode at SF = 8. -/
theorem witness_symbol_range :
    (1 ≤ (scenario 0x1001).sf ∧ modePerm (scenario 0x1001).mode ≠ 3 ∧ modeEnc (scenario 0x1001).mode = true) ∧
    8 ≤ (scenario 8).sf ∧ (2 : BitVec 2) ≠ 3 := by decide
/-- RoundHalfToEven: both ties. -/
theorem witness_ties :
    (0 : Nat) < 4 ∧ 2 * (rhe 6 4 * 4) = 2 * 6 + 4 ∧ 2 * 10 = 2 * (rhe 10 4 * 4) + 4 := by decide
/-- SegmentLengthConsequences, ShiftWrapsBySubtraction, FrequencyRanges, ChirpClosedForms. -/
theorem witness_segments :
    (0 < (⟨1, 4, 0, 1⟩ : ChirpConfig).bw ∧ 2 * (1 * 2 ^ 1) ≤ 4) ∧
    (let c : ChirpConfig := ⟨3, 4, 0, 1⟩; 2 ≤ segmentLength c ∧ 1 < 2 ^ c.sf ∧ 0 < c.fs ∧ 0 < c.bw) ∧
    (let c : ChirpConfig := ⟨4, 4, 1, 2⟩; 0 < c.fs ∧ 0 < c.bw ∧ 0 < modulusM c ∧ 15 < modulusM c) ∧
    (let c : ChirpConfig := ⟨4, 4, 1, 2⟩; ((c.fs * 3 : Nat) : Int) + c.bw * ((1 : Nat) - 1 : Int) < modulusM c) ∧
    (let c : ChirpConfig := ⟨4, 4, 1, 2⟩; ((c.fs * 4 : Nat) : Int) + c.bw * ((0 : Nat) - 1 : Int) < modulusM c) ∧
    ConfigOk tiny := ⟨by decide, by decide, by decide, by decide, by decide, configOk_tiny⟩

/-- I / A and Q / A lie in [-1, 1], so any AMP_I and AMP_Q are within 2 of cos and sin. -/
theorem witness_amplitudes : 2 ≤ 16 ∧ AmpAccurate 16 2 := by
  refine ⟨by decide, fun p d _ => ?_⟩
  have bound : ∀ (n : Nat) (x : Fin (2 * Config.fullScale 16 + 1)) (c : ℝ), -1 ≤ c → c ≤ 1 →
      |(((x.val : Int) - (Config.fullScale 16 : Int) : Int) : ℝ) / (Config.fullScale 16 : ℝ) - c| ≤ 2 := by
    intro _ x c h1 h2
    have hA : (Config.fullScale 16 : ℝ) = 32767 := by norm_num [Config.fullScale]
    have hx : (x.val : ℝ) ≤ 65534 := by
      have := x.isLt
      have h : x.val ≤ 65534 := by simp only [Config.fullScale] at this; omega
      exact_mod_cast h
    have h0 : (0 : ℝ) ≤ x.val := Nat.cast_nonneg _
    push_cast
    rw [hA, abs_le]
    constructor
    · have : (-1 : ℝ) ≤ ((x.val : ℝ) - 32767) / 32767 := by rw [le_div_iff₀ (by norm_num)]; linarith
      linarith
    · have : ((x.val : ℝ) - 32767) / 32767 ≤ 1 := by rw [div_le_one (by norm_num)]; linarith
      linarith
  exact ⟨bound p _ _ (Real.neg_one_le_cos _) (Real.cos_le_one _), bound p _ _ (Real.neg_one_le_sin _) (Real.sin_le_one _)⟩
theorem witness_phase : (0 : Nat) < 64 ∧ (63 : Nat) < 64 := by decide

/-- SlotMapping: each KIND, the last preamble slot, the payload, a SYNTH. -/
theorem witness_slots :
    everyKind.opk = .pkt ∧ 3 < everyKind.plen.toNat ∧ slotKind (everyKind.slotWord 0) = 0 ∧
    slotKind (everyKind.slotWord 1) = 1 ∧ slotKind (everyKind.slotWord 2) = 2 ∧ slotKind (everyKind.slotWord 3) = 3 ∧
    (everyKind.plen.toNat ≤ 4 ∧ 4 < everyKind.nseg.toNat) ∧ running.opk = .one := by decide
/-- EngineEmits: inside a segment, at the end of the operation, at the end of a segment that is not the last. -/
theorem witness_engine_emits :
    (running.eng = .run ∧ running.edone = false ∧ running.outq.length < running.par.outDepth ∧ running.fs ≠ 0 ∧
      running.k + 1 ≠ running.nsamp) ∧
    (lastSample.k + 1 = lastSample.nsamp ∧ lastSample.seg.toNat + 1 = lastSample.nseg.toNat ∧
      lastSample.eng = .run ∧ lastSample.edone = false ∧ lastSample.outq.length < lastSample.par.outDepth ∧
      lastSample.fs ≠ 0) ∧
    (boundary.k + 1 = boundary.nsamp ∧ boundary.seg.toNat + 1 ≠ boundary.nseg.toNat ∧ boundary.fs ≠ 0 ∧
      boundary.eng = .run ∧ boundary.edone = false ∧ boundary.outq.length < boundary.par.outDepth ∧
      slotOf boundary (boundary.seg.toNat + 1) = some (0, .down)) := by decide
/-- EngineCompletesOrHolds: completion, idle, a full queue, a queue that is still draining. -/
theorem witness_engine_holds :
    (drained.eng = .run ∧ drained.edone = true ∧ drained.outq = []) ∧ tiny.eng = .idle ∧
    (oneOut.eng = .run ∧ oneOut.edone = false ∧ oneOut.par.outDepth ≤ oneOut.outq.length) ∧
    (let s : State := { drained with outq := [rec1] }; s.eng = .run ∧ s.edone = true ∧ s.outq ≠ []) := by
  refine ⟨by decide, by decide, ⟨by decide, by decide, by decide⟩, by decide⟩
theorem witness_sink :
    rec0.last = false ∧ rec1.last = true ∧
    ({ drained with turns := [.sink], outq := [rec0, rec1] } : State).turns = [.sink] := by decide
theorem witness_reset :
    ({ running with turns := [.reset] } : State).turns = [.reset] ∧ running.par.admissible := by decide

/-! ### Witnesses for the statements about the whole machine -/

theorem tiny_mask_res : ∀ d ∈ tiny.pmask, d &&& ~~~slotMask = 0 := fun d hd =>
  eq_of_beq (List.all_eq_true.mp (show tiny.pmask.all (fun d => d &&& ~~~slotMask == 0#32) = true by decide) d hd)

theorem inv_tiny : Inv tiny :=
  ⟨by decide, by decide, by decide, by decide, tiny_mask_res, by decide, by decide, by decide, by decide, by decide,
    by decide, by decide, by decide +kernel, by decide +kernel, by decide +kernel, by decide +kernel, by decide,
    by decide, by decide, fun h => absurd h (by decide)⟩

theorem runOk_running : RunOk running :=
  ⟨by decide, by decide, by decide, by decide, by decide, by decide, by decide, by decide, by decide, by decide,
    by decide, by decide, by decide⟩

theorem inv_running : Inv running :=
  ⟨by decide, by decide, by decide, by decide, tiny_mask_res, by decide, by decide, by decide, by decide, by decide,
    by decide, by decide, by decide +kernel, by decide +kernel, by decide +kernel, by decide +kernel, by decide,
    by decide, fun h => absurd h (by decide), fun _ => runOk_running⟩

theorem streamInv_tiny : StreamInv tiny :=
  ⟨fun _ => rfl, fun h => absurd h (by decide), fun h => absurd h (by decide)⟩

theorem streamInv_running : StreamInv running :=
  ⟨fun h => absurd h (by decide), fun _ _ => ⟨rfl, rfl, rfl⟩, fun _ h => absurd h (by decide)⟩

/-- The invariants do not read the schedule. -/
theorem inv_scheduled (ts : List Agent) (ps : List HostOp) (s : State) (h : Inv s) : Inv (scheduled ts ps s) :=
  { h with run_ok := fun hr => { h.run_ok hr with } }
theorem streamInv_scheduled (ts : List Agent) (ps : List HostOp) (s : State) (h : StreamInv s) :
    StreamInv (scheduled ts ps s) := { h with }

/-- StepKeepsInvariant, StepKeepsStream, StepNeverFaults, StepKeepsParameters, RunKeepsItsInputs: the engine's turn. -/
theorem witness_running_step :
    let s := scheduled [.engine] [] running;
    Inv s ∧ StreamInv s ∧ s.eng = .run ∧ (∀ ts, s.turns ≠ .reset :: ts) ∧ ∃ t, step s = .next t :=
  ⟨inv_scheduled _ _ _ inv_running, streamInv_scheduled _ _ _ streamInv_running, rfl,
    fun ts => by simp [scheduled], ⟨_, rfl⟩⟩
/-- The host's turn on the idle machine. -/
theorem witness_idle_step :
    let s := scheduled [.host] [.write 0x008 4 0x00030002] tiny;
    Inv s ∧ StreamInv s ∧ step s = .next running :=
  ⟨inv_scheduled _ _ _ inv_tiny, streamInv_scheduled _ _ _ streamInv_tiny, rfl⟩
/-- AmplitudesFitTheirWords: a record in OUTQ that the sink has not taken. -/
theorem witness_stream_port : Inv oneOut ∧ StreamInv oneOut ∧ ∃ r, oneOut.outq = [r] := by
  refine ⟨?_, ⟨fun h => absurd h (by decide), fun _ _ => ⟨rfl, rfl, rfl⟩, fun _ h => absurd h (by decide)⟩, ⟨_, rfl⟩⟩
  exact
    { inv_running with
      k_fits := by decide +kernel, acc_fits := by decide +kernel, phi_fits := by decide +kernel
      outq_le := by decide, idle_drained := fun h => absurd h (by decide)
      run_ok := fun _ => { runOk_running with k_lt := by decide, acc_lt := by decide, phi_lt := by decide } }
/-- SampleMagnitudeNearOne: a running operation with records, at the engine's turn, with EPS = 2. -/
theorem witness_sample_magnitude :
    let s := scheduled [.engine] [] running;
    Inv s ∧ s.eng = .run ∧ AmpAccurate s.par.outW 2 ∧ (∃ r, r ∈ operationRecords s) ∧ s.turns = [.engine] ∧
      s.edone = false ∧ s.outq.length < s.par.outDepth :=
  ⟨inv_scheduled _ _ _ inv_running, rfl, witness_amplitudes.2, ⟨_, List.mem_cons_self⟩, rfl, rfl, by decide⟩
/-- UnspecifiedStateIsUnobservable: two different states that `forget` does not tell apart. -/
theorem witness_forget :
    let t : State := { tiny with k := 5, csym := 9, cdir := .down, acc := 1, edone := true, opk := .one };
    Inv tiny ∧ Inv t ∧ tiny ≠ t ∧ forget tiny = forget t ∧ step tiny = .next tiny := by
  refine ⟨inv_tiny, ?_, by decide, by decide, rfl⟩
  exact ⟨by decide, by decide, by decide, by decide, tiny_mask_res, by decide, by decide, by decide, by decide,
    by decide, by decide, by decide, by decide +kernel, by decide +kernel, by decide +kernel, by decide +kernel, by decide,
    by decide, by decide, fun h => absurd h (by decide)⟩
theorem witness_operation_records :
    0 < running.nseg.toNat ∧ 3 < running.nsamp ∧ slotOf running 0 = some (3, .up) := by decide
/-- DeliveryIndependentOfSchedule and FairScheduleCompletes: acceptance from `tiny`, then two turns with OUT_DEPTH 2. -/
theorem witness_delivery :
    Inv tiny ∧ StreamInv tiny ∧ tiny.eng = .idle ∧ exec (.synthUp 3) tiny = .next running ∧ running.eng = .run ∧
    running.nseg ≠ 0 ∧ Agent.reset ∉ [Agent.engine, Agent.sink] ∧
    ∃ t, Sys2Proof.core.run 2 { running with
      turns := [.engine, .sink], program := [], par := { running.par with outDepth := 2 } } = .next t :=
  ⟨inv_tiny, streamInv_tiny, by decide, by rfl, by decide, by decide, by decide, ⟨_, rfl⟩⟩

end Sys2Proof.Tests
end

section
/-! The rounding of R9: `rhe` is settled by the quotient and the remainder of the division. -/

namespace Sys2Proof.Machine

/-- R9 with the division's remainder in place of the model's subtraction. -/
theorem rhe_eq_ite_mod (p q : Nat) :
    rhe p q = if 2 * (p % q) < q then p / q else if q < 2 * (p % q) then p / q + 1
      else if p / q % 2 = 0 then p / q else p / q + 1 := by
  simp only [rhe, Nat.mod_eq_sub_div_mul]

/-- Below the half, above it, and the tie with an even and with an odd quotient. -/
theorem rhe_cases (p q : Nat) :
    (2 * (p % q) < q ∧ rhe p q = p / q) ∨
    (q < 2 * (p % q) ∧ rhe p q = p / q + 1) ∨
    (2 * (p % q) = q ∧ p / q % 2 = 0 ∧ rhe p q = p / q) ∨
    (2 * (p % q) = q ∧ p / q % 2 = 1 ∧ rhe p q = p / q + 1) := by
  rw [rhe_eq_ite_mod]
  split_ifs <;> omega

/-- Settles O39: in each case the distance of `rhe p q * q` from `p` is the remainder, or its complement to `q`. -/
theorem roundHalfToEven : Obligations.RoundHalfToEven := by
  intro p q hq
  have hdiv : p / q * q + p % q = p := Nat.div_add_mod' p q
  have hlt : p % q < q := Nat.mod_lt p hq
  have hsucc : (p / q + 1) * q = p / q * q + q := Nat.succ_mul _ _
  obtain ⟨below, hr⟩ | ⟨above, hr⟩ | ⟨tie, even, hr⟩ | ⟨tie, odd, hr⟩ := rhe_cases p q <;>
    rw [hr] <;> omega

end Sys2Proof.Machine
end

section
/-! The register port, read and written through the registers: which register stands at an offset (R63), what an
access there does (R100, R102), and SYMDATA (R39). -/

namespace Sys2Proof.Machine

theorem wordIndex_eq_div_mod (a : Word) : wordIndex a = a.toNat / 4 % 128 := by
  simp [wordIndex, BitVec.extractLsb'_toNat, Nat.shiftRight_eq_div_pow]

theorem regOfIndex_pmask {pmax i : Nat} (hi : i < pmax) : regOfIndex pmax (64 + i) = some (.pmask i) := by
  unfold regOfIndex
  split
  case h_23 => rw [if_pos ⟨Nat.le_add_right 64 i, by omega⟩, Nat.add_sub_cancel_left]
  all_goals omega

/-- R63 for the registers that are there whatever the parameters. -/
theorem regAt_regOffset_of_ne_pmask (p : Config.Params) {r : Reg} (hr : ∀ i, r ≠ .pmask i) :
    regAt p (BitVec.ofNat 32 (regOffset r)) = some r := by
  cases r with
  | pmask i => exact absurd rfl (hr i)
  | _ => rfl

/-- R63 for the mask file: seven bits of word index hold all of its slots. -/
theorem regAt_regOffset_pmask {p : Config.Params} (hp : p.pmax ≤ 64) {i : Nat} (hi : i < p.pmax) :
    regAt p (BitVec.ofNat 32 (regOffset (.pmask i))) = some (.pmask i) := by
  have hindex : wordIndex (BitVec.ofNat 32 (regOffset (.pmask i))) = 64 + i := by
    rw [wordIndex_eq_div_mod, BitVec.toNat_ofNat, regOffset]
    omega
  rw [regAt, hindex, regOfIndex_pmask hi]

theorem memRead_of_regAt {s : State} {a : Word} {r : Reg} (h : regAt s.par a = some r) :
    memRead s a = readReg s r := by
  simp only [memRead, h]

theorem memWrite_of_regAt {s : State} {a : Word} {r : Reg} (v : Word) (h : regAt s.par a = some r) (hr : r ≠ .cmd) :
    memWrite a v s = .next (writeReg r v s) := by
  rw [memWrite, h]
  cases r with
  | cmd => exact absurd rfl hr
  | _ => rfl

theorem symData_of_lt {s : State} (h : s.symidx.toNat < s.nsym.toNat) :
    symData s = Memory.read s.symbuf s.symidx.toNat := if_pos h

theorem symData_of_le {s : State} (h : s.nsym.toNat ≤ s.symidx.toNat) : symData s = 0 := if_neg (Nat.not_lt.2 h)

/-- Settles O34: SYMIDX and SYMDATA stand at 0x050 and 0x054, and `symData` has a case for each side of NSYM. -/
theorem symbolReadback : Obligations.SymbolReadback := by
  intro s v
  have hidx : regAt s.par 0x050 = some .symidx := regAt_regOffset_of_ne_pmask s.par (r := .symidx) nofun
  have hdata : regAt s.par 0x054 = some .symdata := regAt_regOffset_of_ne_pmask s.par (r := .symdata) nofun
  refine ⟨memWrite_of_regAt v hidx nofun, memRead_of_regAt hidx, fun hlt => ?_, fun hle => ?_⟩
  · rw [memRead_of_regAt hdata, readReg, symData_of_lt hlt]
  · rw [memRead_of_regAt hdata, readReg, symData_of_le hle]
    rfl

end Sys2Proof.Machine
end

section
/-! Reset (R45, R200): one table of reset values, and that the port reads it after a reset step. -/

namespace Sys2Proof.Machine

theorem step_of_turns_cons {s : State} {a : Agent} {ts : List Agent} (h : s.turns = a :: ts) :
    step s = agentStep a (popTurn ts s) := by
  simp only [step, takeTurn, h]

/-- The table of R45, read through the port. -/
def resetValue (p : Config.Params) : Reg → Word
  | .id => p.idValue
  | .plen => 8
  | .pmask i => if i < 5 then 1 else 0
  | _ => 0

theorem resetMask_getD (pmax i : Nat) : (resetMask pmax).getD i 0#32 = if i < 5 then 1 else 0 := by
  rw [resetMask, List.getD_eq_getElem?_getD, List.getElem?_append, List.length_replicate]
  split
  · next hi => rw [List.getElem?_replicate_of_lt hi, Option.getD_some]; rfl
  · rw [List.getElem?_replicate]
    split <;> rfl

/-- After a reset step every register holds its value of R45's table, in whatever state the reset came. -/
theorem readReg_resetStep (s : State) (r : Reg) : readReg (resetStep s) r = resetValue s.par r := by
  cases r with
  | pmask i => exact resetMask_getD s.par.pmax i
  | status =>
    have hbusy : (resetStep s).busy = false := rfl
    rw [readReg, statusWord, hbusy]
    simp [resetStep, State.resetWith, resetValue]
  | nsampHi => simp [readReg, resetStep, State.resetWith, resetValue]
  | _ => rfl

theorem memRead_resetStep {s : State} {a : Word} {r : Reg} (h : regAt s.par a = some r) :
    memRead (resetStep s) a = resetValue s.par r :=
  (memRead_of_regAt (s := resetStep s) h).trans (readReg_resetStep s r)

/-- The registers, the mask file aside, that R45 resets to 0 and a host can read, by rising offset. -/
def zeroRegs : List Reg :=
  [.status, .irqen, .fs, .bw, .f0, .mode, .nsampLo, .nsampHi, .msglen, .nsym, .result, .errcode, .erridx, .errval,
    .segcnt, .posseg, .symidx, .symdata]

theorem ne_pmask_of_mem_zeroRegs {r : Reg} (h : r ∈ zeroRegs) (i : Nat) : r ≠ .pmask i := by
  rintro rfl
  simp [zeroRegs] at h

theorem resetValue_of_mem_zeroRegs (p : Config.Params) : ∀ r ∈ zeroRegs, resetValue p r = 0 := by
  simp [zeroRegs, resetValue]

/-- Settles O50: the port finds each register at its offset, and there the value of R45's table. -/
theorem resetGivesResetValues : Obligations.ResetGivesResetValues := by
  intro s ts hts hadm
  obtain ⟨-, -, hslots, hpmax, -⟩ := hadm
  have hfixed : ∀ r : Reg, (∀ i, r ≠ .pmask i) →
      memRead (resetStep (popTurn ts s)) (BitVec.ofNat 32 (regOffset r)) = resetValue s.par r :=
    fun r hr => memRead_resetStep (regAt_regOffset_of_ne_pmask _ hr)
  have hmask : ∀ i < s.par.pmax,
      memRead (resetStep (popTurn ts s)) (BitVec.ofNat 32 (regOffset (.pmask i))) = if i < 5 then 1 else 0 :=
    fun i hi => memRead_resetStep (s := popTurn ts s) (regAt_regOffset_pmask hpmax hi)
  refine ⟨resetStep (popTurn ts s), step_of_turns_cons hts, rfl, rfl, rfl, rfl, hfixed .id nofun, hfixed .plen nofun,
    ?zeros, fun i hi => ?down, fun i hi hip => ?up⟩
  case zeros =>
    refine (List.forall_mem_map (l := zeroRegs) (f := regOffset)).2 fun r hr => ?_
    rw [hfixed r (ne_pmask_of_mem_zeroRegs hr), resetValue_of_mem_zeroRegs s.par r hr]
  case down => exact (hmask i (by omega)).trans (if_pos hi)
  case up => exact (hmask i hip).trans (if_neg (Nat.not_lt.2 hi))

end Sys2Proof.Machine
end

section
/-! Every command has a next state (R85), whatever the state: START and SYNTH load segment 0 only where Slot(0) exists
(R162, R163). -/

namespace Sys2Proof.Machine

theorem slotOf_one_zero {s : State} (hop : s.opk = .one) : slotOf s 0 = some (s.asym, s.adir) := by
  simp only [slotOf, hop, if_true]

/-- Below PLEN the KIND decides, and only the reserved one has no row; from PLEN to NSEG there is always a symbol. -/
theorem slotOf_pkt_exists {s : State} {j : Nat} (hop : s.opk = .pkt) (hj : j < s.nseg.toNat)
    (hkind : j < s.plen.toNat → slotKind (s.slotWord j) ≠ 3) : ∃ sym dir, slotOf s j = some (sym, dir) := by
  by_cases hmask : j < s.plen.toNat
  · have hlt : (slotKind (s.slotWord j)).toNat < 4 := (slotKind (s.slotWord j)).isLt
    have h3 : (slotKind (s.slotWord j)).toNat ≠ 3 := fun h => hkind hmask (BitVec.eq_of_toNat_eq h)
    obtain h | h | h : (slotKind (s.slotWord j)).toNat = 0 ∨ (slotKind (s.slotWord j)).toNat = 1 ∨
        (slotKind (s.slotWord j)).toNat = 2 := by omega
    all_goals simp [slotOf, hop, hmask, h]
  · simp [slotOf, hop, hmask, hj]

/-- Acceptance answers a next state unless it has a segment to load and Slot(0) is missing (R165). -/
theorem accept_next_exists {opk : OpKind} {nseg : BitVec 17} {s : State}
    (hslot : nseg ≠ 0 → ∃ sym dir, slotOf (rewind false (armEngine opk nseg s)) 0 = some (sym, dir)) :
    ∃ t, accept opk nseg s = .next t := by
  rw [accept, engineInit, armEngine_nseg]
  split
  · exact ⟨_, rfl⟩
  · next hnseg =>
    obtain ⟨sym, dir, hs⟩ := hslot hnseg
    exact ⟨_, loadSeg_some hs⟩

theorem synth_next_exists (dir : Dir) (arg : Half) (s : State) : ∃ t, synth dir arg s = .next t := by
  unfold synth
  split
  · exact ⟨_, rfl⟩
  · split
    · exact ⟨_, rfl⟩
    · exact accept_next_exists fun _ => ⟨_, _, slotOf_one_zero rfl⟩

/-- The check of KIND (R161, code 0x18) is what makes Slot(0) of an accepted packet exist. -/
theorem execStart_next_exists (s : State) : ∃ t, execStart s = .next t := by
  unfold execStart
  split
  · exact ⟨_, rfl⟩
  · split
    · exact ⟨_, rfl⟩
    · next hnone =>
      obtain ⟨-, hmask, -, -⟩ := (startError_none_iff s).1 hnone
      refine accept_next_exists fun hnseg => slotOf_pkt_exists rfl ?_ (hmask.kinds 0)
      exact Nat.pos_of_ne_zero fun h => hnseg (BitVec.eq_of_toNat_eq h)

theorem execMsgclr_next_exists (s : State) : ∃ t, execMsgclr s = .next t := by
  unfold execMsgclr
  split
  · exact ⟨_, rfl⟩
  · exact ⟨_, rfl⟩

/-- No command stops the machine, in any state (R61, R85). -/
theorem exec_next_exists (i : Instr) (s : State) : ∃ t, exec i s = .next t := by
  cases i with
  | start => exact execStart_next_exists s
  | synthUp arg => exact synth_next_exists .up arg s
  | synthDn arg => exact synth_next_exists .down arg s
  | msgclr => exact execMsgclr_next_exists s
  | nop | grayf | grayi | reserved67 | reserved8F => exact ⟨_, rfl⟩

end Sys2Proof.Machine
end

section
/-! The width of a bus access (R61). -/

namespace Sys2Proof.Machine

theorem hostStep_read_refused {s : State} {a : Word} {n : Nat} {ps : List HostOp} (hn : n ≠ 4)
    (hp : s.program = .read a n :: ps) : hostStep s = .refused (.busSize n) := by
  simp only [hostStep, hp, if_neg hn]

theorem hostStep_write_refused {s : State} {a v : Word} {n : Nat} {ps : List HostOp} (hn : n ≠ 4)
    (hp : s.program = .write a n v :: ps) : hostStep s = .refused (.busSize n) := by
  simp only [hostStep, hp, if_neg hn]

/-- Addresses of one word reach the same register: addr[1:0] is not decoded. -/
theorem regAt_congr (p : Config.Params) {a b : Word} (h : a.toNat / 4 = b.toNat / 4) : regAt p a = regAt p b := by
  rw [regAt, regAt, wordIndex_eq_div_mod, wordIndex_eq_div_mod, h]

/-- A write of the right size runs a command, stores a register or does nothing; each has a next state. -/
theorem memWrite_next_exists (s : State) (a v : Word) : ∃ t, memWrite a v s = .next t := by
  unfold memWrite
  split
  · exact exec_next_exists (decodeWord v) s
  · exact ⟨_, rfl⟩
  · exact ⟨_, rfl⟩

/-- Settles O26: the host's turn looks at the size first, the port at the word index only, and every write ends in a
next state. -/
theorem everyAccessIsAWordAccess : Obligations.EveryAccessIsAWordAccess := by
  refine ⟨fun s a v n ts ps hn hts => ⟨fun hp => ?read, fun hp => ?write⟩, fun s a b v hab => ⟨?reads, ?writes⟩,
    memWrite_next_exists⟩
  case read => exact (step_of_turns_cons hts).trans (hostStep_read_refused (s := popTurn ts s) hn hp)
  case write => exact (step_of_turns_cons hts).trans (hostStep_write_refused (s := popTurn ts s) hn hp)
  case reads => rw [memRead, memRead, regAt_congr s.par hab]
  case writes => rw [memWrite, memWrite, regAt_congr s.par hab]

end Sys2Proof.Machine
end

section
/-! Accesses with no effect (R64): reserved offsets, WO and RO registers, RES bits. -/

namespace Sys2Proof.Machine

/-! ### Reserved offsets -/

theorem wordIndex_ofNat_four_mul {j : Nat} (hj : j < 128) : wordIndex (BitVec.ofNat 32 (4 * j)) = j := by
  rw [wordIndex_eq_div_mod, BitVec.toNat_ofNat]
  omega

theorem regOfIndex_reserved {pmax j : Nat} (hj : (22 ≤ j ∧ j < 64) ∨ 64 + pmax ≤ j) : regOfIndex pmax j = none := by
  have hslot : ¬(64 ≤ j ∧ j < 64 + pmax) := by omega
  unfold regOfIndex
  split
  case h_23 => exact if_neg hslot
  all_goals omega

theorem regAt_reserved {p : Config.Params} {j : Nat} (hj : (22 ≤ j ∧ j < 64) ∨ (64 + p.pmax ≤ j ∧ j < 128)) :
    regAt p (BitVec.ofNat 32 (4 * j)) = none := by
  rw [regAt, wordIndex_ofNat_four_mul (by omega), regOfIndex_reserved (by omega)]

theorem memRead_of_regAt_none {s : State} {a : Word} (h : regAt s.par a = none) : memRead s a = 0 := by
  simp only [memRead, h]

theorem memWrite_of_regAt_none {s : State} {a : Word} (v : Word) (h : regAt s.par a = none) :
    memWrite a v s = .next s := by
  simp only [memWrite, h]

/-! ### RO registers -/

/-- The RO registers (R63), by rising offset. -/
def readOnlyRegs : List Reg :=
  [.id, .nsampLo, .nsampHi, .msglen, .nsym, .result, .errcode, .erridx, .errval, .segcnt, .posseg, .symdata]

theorem writeReg_of_mem_readOnlyRegs (v : Word) (s : State) : ∀ r ∈ readOnlyRegs, writeReg r v s = s := by
  simp [readOnlyRegs, writeReg]

theorem memWrite_readOnly {r : Reg} (hr : r ∈ readOnlyRegs) (v : Word) (s : State) :
    memWrite (BitVec.ofNat 32 (regOffset r)) v s = .next s := by
  have hpmask : ∀ i, r ≠ .pmask i := by rintro i rfl; simp [readOnlyRegs] at hr
  have hcmd : r ≠ .cmd := by rintro rfl; simp [readOnlyRegs] at hr
  rw [memWrite_of_regAt v (regAt_regOffset_of_ne_pmask s.par hpmask) hcmd, writeReg_of_mem_readOnlyRegs v s r hr]

/-! ### RES bits -/

theorem and_mask_and_not (v m : Word) : (v &&& m) &&& ~~~m = 0 := by
  rw [BitVec.and_assoc, BitVec.and_not_self]
  exact BitVec.and_zero

/-- A field of `n` bits, zero-extended, has no bit outside the low `n`. -/
theorem setWidth_and_not_low {n : Nat} (x : BitVec n) : x.setWidth 32 &&& ~~~((BitVec.allOnes n).setWidth 32) = 0 := by
  ext i hi
  simpa using BitVec.lt_of_getLsbD

/-- STATUS shows nothing of the state but its six flags, so its RES bits are a matter of their 64 values. -/
theorem statusWord_res (s : State) : statusWord s &&& ~~~0x0000003F#32 = 0 := by
  unfold statusWord
  generalize s.msgovf = movf, s.wign = wign, s.cmdrej = rej, s.err = err, s.done = done, s.busy = busy
  revert movf wign rej err done busy
  decide

theorem lockedWrite_of_idle {s : State} (t : State) (h : s.eng = .idle) : lockedWrite s t = t := by
  simp [lockedWrite, h]

theorem slotWord_set {s : State} {i : Nat} (d : Word) (hi : i < s.pmask.length) :
    ({ s with pmask := s.pmask.set i d } : State).slotWord i = d := by
  simp [State.slotWord, hi]

theorem lockedWrite_par {s t : State} (h : t.par = s.par) : (lockedWrite s t).par = s.par := by
  obtain ⟨-, ht⟩ | ⟨-, ht⟩ := lockedWrite_cases s t
  · rw [ht, reject_par]
  · rw [ht, h]

theorem pushMessage_par (v : Word) (s : State) : (pushMessage v s).par = s.par := by
  obtain ⟨-, ht⟩ | ⟨-, -, ht⟩ | ⟨-, -, ht⟩ := pushMessage_cases v s
  · rw [ht, reject_par]
  · rw [ht, reject_par]
  · rw [ht, appendByte_par]

theorem writeReg_par (r : Reg) (v : Word) (s : State) : (writeReg r v s).par = s.par := by
  cases r with
  | fs | bw | f0 | mode | plen | pmask => exact lockedWrite_par rfl
  | msgdata => exact pushMessage_par v s
  | _ => rfl

/-- Bits that are 0 in a register after a write to it are 0 where the host reads it back, at the address it wrote. -/
theorem memRead_memWrite_and_eq_zero {s : State} {a : Word} {r : Reg} (v : Word) (ha : regAt s.par a = some r)
    (hr : r ≠ .cmd) {m : Word} (h : readReg (writeReg r v s) r &&& m = 0) :
    ∃ t, memWrite a v s = .next t ∧ memRead t a &&& m = 0 := by
  have hat : regAt (writeReg r v s).par a = some r := by rw [writeReg_par, ha]
  exact ⟨writeReg r v s, memWrite_of_regAt v ha hr, by rw [memRead_of_regAt hat, h]⟩

/-- Settles O28: a reserved offset holds no register, an RO register keeps the state, and a RES bit lies outside the
field's width or is masked off by the write. -/
theorem accessesWithNoEffect : Obligations.AccessesWithNoEffect := by
  intro s hadm hlen
  obtain ⟨-, -, -, hpmax, -⟩ := hadm
  have hat : ∀ r : Reg, (∀ i, r ≠ .pmask i) → regAt s.par (BitVec.ofNat 32 (regOffset r)) = some r :=
    fun r hr => regAt_regOffset_of_ne_pmask s.par hr
  refine ⟨fun j hj => ?reserved, ⟨memRead_of_regAt (hat .cmd nofun), memRead_of_regAt (hat .msgdata nofun)⟩,
    ?readOnly, fun v => ?status, fun v => ?irqen, fun v => ?symidx, fun hidle v => ?mode, fun _ v => ?plen,
    fun hidle i hi v => ?pmask⟩
  case reserved =>
    have hnone := regAt_reserved hj
    exact ⟨memRead_of_regAt_none hnone, fun v => memWrite_of_regAt_none v hnone⟩
  case readOnly =>
    exact (List.forall_mem_map (l := readOnlyRegs) (f := regOffset)).2 fun r hr v => memWrite_readOnly hr v s
  case status => exact memRead_memWrite_and_eq_zero v (hat .status nofun) nofun (statusWord_res _)
  case irqen => exact memRead_memWrite_and_eq_zero v (hat .irqen nofun) nofun (and_mask_and_not v irqenMask)
  case symidx => exact memRead_memWrite_and_eq_zero v (hat .symidx nofun) nofun (setWidth_and_not_low _)
  case plen => exact memRead_memWrite_and_eq_zero v (hat .plen nofun) nofun (setWidth_and_not_low _)
  case mode =>
    refine memRead_memWrite_and_eq_zero v (hat .mode nofun) nofun ?_
    rw [writeReg, lockedWrite_of_idle _ hidle]
    exact and_mask_and_not v modeMask
  case pmask =>
    refine memRead_memWrite_and_eq_zero v (regAt_regOffset_pmask hpmax hi) nofun ?_
    rw [writeReg, lockedWrite_of_idle _ hidle, readReg, slotWord_set _ (by omega)]
    exact and_mask_and_not v slotMask

end Sys2Proof.Machine
end

section
/-! The command word by its fields (R80, R82, R84): the fields in arithmetic, and the command of each opcode. -/

namespace Sys2Proof.Machine

/-! ### The fields in arithmetic -/

theorem opField_toNat (w : Word) : (opField w).toNat = w.toNat % 16 := by
  simp [opField, BitVec.extractLsb'_toNat]

theorem opField_eq_ofNat (w : Word) : opField w = BitVec.ofNat 4 (w.toNat % 16) := by
  rw [← opField_toNat, BitVec.ofNat_toNat, BitVec.setWidth_eq]

theorem dirField_eq_decide (w : Word) : dirField w = decide (w.toNat / 16 % 2 = 1) := by
  rw [dirField, BitVec.getLsbD, Nat.testBit_eq_decide_div_mod_eq]

theorem argField_eq_ofNat (w : Word) : argField w = BitVec.ofNat 16 (w.toNat / 65536) := by
  rw [argField, BitVec.extractLsb', Nat.shiftRight_eq_div_pow]

/-! ### The command of each opcode -/

section
variable {w : Word}

theorem decodeWord_nop (h : (opField w).toNat = 0) : decodeWord w = .nop := by
  simp only [decodeWord, h]

theorem decodeWord_start (h : (opField w).toNat = 1) : decodeWord w = .start := by
  simp only [decodeWord, h]

theorem decodeWord_synth (h : (opField w).toNat = 2) :
    decodeWord w = if dirField w then .synthDn (argField w) else .synthUp (argField w) := by
  simp only [decodeWord, h]

theorem decodeWord_grayf (h : (opField w).toNat = 3) : decodeWord w = .grayf (argField w) := by
  simp only [decodeWord, h]

theorem decodeWord_grayi (h : (opField w).toNat = 4) : decodeWord w = .grayi (argField w) := by
  simp only [decodeWord, h]

theorem decodeWord_msgclr (h : (opField w).toNat = 5) : decodeWord w = .msgclr := by
  simp only [decodeWord, h]

theorem decodeWord_reserved67 (h : (opField w).toNat = 6 ∨ (opField w).toNat = 7) :
    decodeWord w = .reserved67 (opField w) := by
  obtain h | h := h
  · simp only [decodeWord, h]
  · simp only [decodeWord, h]

/-- The decoder's last row is met exactly when none of the opcodes 0 to 7 is. -/
theorem decodeWord_reserved8F (h : 8 ≤ (opField w).toNat) : decodeWord w = .reserved8F (opField w) := by
  unfold decodeWord
  split
  case h_9 => rfl
  all_goals omega

end

/-- Settles O2: each clause is the decoder's row, with the fields it reads put in arithmetic. -/
theorem wordFieldsSelectCommand : Obligations.WordFieldsSelectCommand := by
  intro w op dir arg
  have hop : (opField w).toNat = op := opField_toNat w
  have hdir : dirField w = decide (dir = 1) := dirField_eq_decide w
  have harg : argField w = arg := argField_eq_ofNat w
  have hopWord : opField w = BitVec.ofNat 4 op := opField_eq_ofNat w
  rw [← hopWord, ← harg, ← hop]
  refine ⟨decodeWord_nop, decodeWord_start, fun h hup => ?up, fun h hdn => ?down, decodeWord_grayf, decodeWord_grayi,
    decodeWord_msgclr, decodeWord_reserved67, decodeWord_reserved8F⟩
  case up => simp [decodeWord_synth h, hdir, hup]
  case down => simp [decodeWord_synth h, hdir, hdn]

end Sys2Proof.Machine
end

section
/-! Reserved opcodes (R85, R104): every word that carries one is rejected. -/

namespace Sys2Proof.Machine

/-- The two reserved rows together are the opcodes from 6, and both do the same. -/
theorem exec_decodeWord_reserved {w : Word} (h : 6 ≤ (opField w).toNat) (s : State) :
    exec (decodeWord w) s = .next (reject .cmdrej s) := by
  obtain h67 | h8F : ((opField w).toNat = 6 ∨ (opField w).toNat = 7) ∨ 8 ≤ (opField w).toNat := by omega
  · rw [decodeWord_reserved67 h67]
    rfl
  · rw [decodeWord_reserved8F h8F]
    rfl

/-- Settles O22: every command has a next state, and a reserved opcode's is the rejection. -/
theorem noCommandWordStops : Obligations.NoCommandWordStops :=
  fun s w => ⟨exec_next_exists (decodeWord w) s, fun h => exec_decodeWord_reserved h s⟩

end Sys2Proof.Machine
end

section
/-! The register port under its lock (R108): what each register holds after a write while ENG = IDLE (R110 to R115), and
that a write while ENG = RUN only sets WIGN. -/

namespace Sys2Proof.Machine

/-! ### Fields of a word -/

/-- The low `n` bits of a word, zero-extended, are the word masked to them. -/
theorem setWidth_setWidth_eq_and_low (n : Nat) (v : Word) :
    (v.setWidth n).setWidth 32 = v &&& (BitVec.allOnes n).setWidth 32 := by
  ext i hi
  by_cases hin : i < n
  · simp [hin, BitVec.getLsbD_eq_getElem hi]
  · simp [hin]

/-- A mask to the low `n` bits takes nothing from a field of `n` bits. -/
theorem setWidth_and_low (n : Nat) (v : Word) :
    (v &&& (BitVec.allOnes n).setWidth 32).setWidth n = v.setWidth n := by
  ext i hi
  simp only [BitVec.getElem_setWidth, BitVec.getLsbD_and, BitVec.getLsbD_setWidth, BitVec.getLsbD_allOnes]
  by_cases h32 : i < 32
  · simp [h32, hi]
  · simp [BitVec.getLsbD_of_ge v i (Nat.le_of_not_lt h32)]

/-! ### Stores -/

/-- A write stores, and what the register then holds is what the host reads back at the address it wrote. -/
theorem memWrite_memRead {s : State} {a : Word} {r : Reg} {v w : Word} (ha : regAt s.par a = some r) (hr : r ≠ .cmd)
    (h : readReg (writeReg r v s) r = w) :
    memWrite a v s = .next (writeReg r v s) ∧ memRead (writeReg r v s) a = w := by
  have hat : regAt (writeReg r v s).par a = some r := by rw [writeReg_par, ha]
  exact ⟨memWrite_of_regAt v ha hr, by rw [memRead_of_regAt hat, h]⟩

theorem slotWord_set_of_ne {s : State} {i j : Nat} (d : Word) (hji : j ≠ i) :
    ({ s with pmask := s.pmask.set i d } : State).slotWord j = s.slotWord j := by
  simp [State.slotWord, List.getD_eq_getElem?_getD, List.getElem?_set_ne hji.symm]

/-- A write that the lock lets through stores `t`, and `t` is what the host reads back from. -/
theorem memWrite_memRead_of_idle {s t : State} {a v w : Word} {r : Reg} (hidle : s.eng = .idle)
    (ha : regAt s.par a = some r) (hr : r ≠ .cmd) (hw : writeReg r v s = lockedWrite s t) (h : readReg t r = w) :
    memWrite a v s = .next t ∧ memRead t a = w := by
  have ht : writeReg r v s = t := by rw [hw, lockedWrite_of_idle t hidle]
  subst ht
  exact memWrite_memRead ha hr h

/-- Settles O29: IRQEN and SYMIDX are stored at once, the others through the lock that ENG = IDLE opens, and each field
is as wide as its mask. -/
theorem registerStores : Obligations.RegisterStores := by
  intro s v hadm hlen
  obtain ⟨-, -, -, hpmax, -⟩ := hadm
  have hat : ∀ r : Reg, (∀ i, r ≠ .pmask i) → regAt s.par (BitVec.ofNat 32 (regOffset r)) = some r :=
    fun r hr => regAt_regOffset_of_ne_pmask s.par hr
  have hplen8 : (v &&& 0x000000FF#32).setWidth 8 = v.setWidth 8 := setWidth_and_low 8 v
  have hsymidx16 : (v &&& 0x0000FFFF#32).setWidth 16 = v.setWidth 16 := setWidth_and_low 16 v
  rw [hplen8, hsymidx16]
  have hirqen := memWrite_memRead (v := v) (hat .irqen nofun) nofun rfl
  have hsymidx := memWrite_memRead (hat .symidx nofun) nofun (setWidth_setWidth_eq_and_low 16 v)
  refine ⟨hirqen.1, hsymidx.1, ⟨_, hirqen⟩, ⟨_, hsymidx⟩, fun hidle => ?_⟩
  have hfs := memWrite_memRead_of_idle (v := v) hidle (hat .fs nofun) nofun rfl rfl
  have hbw := memWrite_memRead_of_idle (v := v) hidle (hat .bw nofun) nofun rfl rfl
  have hf0 := memWrite_memRead_of_idle (v := v) hidle (hat .f0 nofun) nofun rfl rfl
  have hmode := memWrite_memRead_of_idle (v := v) hidle (hat .mode nofun) nofun rfl rfl
  have hplen := memWrite_memRead_of_idle hidle (hat .plen nofun) nofun rfl (setWidth_setWidth_eq_and_low 8 v)
  refine ⟨⟨_, hfs⟩, ⟨_, hbw⟩, ⟨_, hf0⟩, ⟨_, hmode⟩, ⟨_, hplen⟩, hfs.1, hbw.1, hf0.1, hmode.1, hplen.1,
    fun i hi => ?slot⟩
  case slot =>
    obtain ⟨hwrite, hread⟩ := memWrite_memRead_of_idle hidle (regAt_regOffset_pmask hpmax hi) nofun rfl
      (slotWord_set (v &&& slotMask) (hlen ▸ hi))
    exact ⟨_, hwrite, rfl, hread, fun j hji => slotWord_set_of_ne _ hji⟩

/-! ### The lock during a run -/

/-- The registers, PMASK aside, that R108 locks, by rising offset. -/
def lockedRegs : List Reg := [.fs, .bw, .f0, .mode, .plen, .msgdata]

theorem lockedWrite_of_run {s : State} (t : State) (h : s.eng = .run) : lockedWrite s t = reject .wign s := if_pos h

theorem pushMessage_of_run {s : State} (v : Word) (h : s.eng = .run) : pushMessage v s = reject .wign s := if_pos h

theorem writeReg_lockedRegs_of_run {s : State} (v : Word) (h : s.eng = .run) :
    ∀ r ∈ lockedRegs, writeReg r v s = reject .wign s := by
  simp [lockedRegs, writeReg, lockedWrite_of_run _ h, pushMessage_of_run _ h]

theorem memWrite_lockedRegs_of_run {s : State} {r : Reg} (hr : r ∈ lockedRegs) (v : Word) (h : s.eng = .run) :
    memWrite (BitVec.ofNat 32 (regOffset r)) v s = .next (reject .wign s) := by
  have hpmask : ∀ i, r ≠ .pmask i := by rintro i rfl; simp [lockedRegs] at hr
  have hcmd : r ≠ .cmd := by rintro rfl; simp [lockedRegs] at hr
  rw [memWrite_of_regAt v (regAt_regOffset_of_ne_pmask s.par hpmask) hcmd, writeReg_lockedRegs_of_run v h r hr]

theorem memWrite_cmd (v : Word) (s : State) : memWrite 0x008 v s = exec (decodeWord v) s := rfl

/-- The commands that R101 rejects during a run, the two of SYNTH with ARG `n`. -/
def lockedCommands (n : Half) : List Instr := [.start, .synthUp n, .synthDn n, .msgclr]

theorem exec_of_run {s : State} (h : s.eng = .run) (n : Half) :
    ∀ i ∈ lockedCommands n, exec i s = .next (reject .cmdrej s) := by
  simp [lockedCommands, exec, execStart, execSynthUp, execSynthDn, synth, execMsgclr, h]

theorem decodeWord_encode_lockedCommands (n : Half) :
    ∀ i ∈ lockedCommands n, decodeWord (encode i) = i := by
  have hup : decodeWord (encode (.synthUp n)) = .synthUp n := by
    rw [encode, decodeWord_synth (by simp)]
    simp
  have hdn : decodeWord (encode (.synthDn n)) = .synthDn n := by
    rw [encode, decodeWord_synth (by simp)]
    simp
  simp only [lockedCommands, List.forall_mem_cons, List.not_mem_nil, false_imp_iff, implies_true, and_true]
  exact ⟨by decide, hup, hdn, by decide⟩

/-- Settles O30: the locked stores, the push and the three commands each ask for ENG first; the other three registers
do not. -/
theorem writeLockDuringRun : Obligations.WriteLockDuringRun := by
  intro s v hadm hrun
  obtain ⟨-, -, -, hpmax, -⟩ := hadm
  have hat : ∀ r : Reg, (∀ i, r ≠ .pmask i) → regAt s.par (BitVec.ofNat 32 (regOffset r)) = some r :=
    fun r hr => regAt_regOffset_of_ne_pmask s.par hr
  refine ⟨?locked, fun i hi => ?pmask, fun n i hi => ?commands, memWrite_of_regAt v (hat .status nofun) nofun,
    memWrite_of_regAt v (hat .irqen nofun) nofun, memWrite_of_regAt v (hat .symidx nofun) nofun⟩
  case locked =>
    exact (List.forall_mem_map (l := lockedRegs) (f := regOffset)).2 fun r hr => memWrite_lockedRegs_of_run hr v hrun
  case pmask =>
    refine (memWrite_of_regAt v (regAt_regOffset_pmask hpmax hi) nofun).trans ?_
    rw [writeReg, lockedWrite_of_run _ hrun]
    rfl
  case commands =>
    rw [memWrite_cmd, decodeWord_encode_lockedCommands n i hi]
    exact exec_of_run hrun n i hi

end Sys2Proof.Machine
end

section
/-! STATUS by its bits (R24), and its write-one-to-clear (R109). -/

namespace Sys2Proof.Machine

/-- The six flags of STATUS at their bits, and 0 in the RES bits. -/
theorem statusWord_getLsbD (s : State) (b : Nat) :
    (statusWord s).getLsbD b = [s.busy, s.done, s.err, s.cmdrej, s.wign, s.msgovf].getD b false := by
  simp only [statusWord, BitVec.getLsbD_append]
  match b with
  | 0 | 1 | 2 | 3 | 4 | 5 => simp
  | b + 6 => simp

theorem statusWord_getLsbD_res (s : State) {b : Nat} (hb : 6 ≤ b) : (statusWord s).getLsbD b = false := by
  rw [statusWord_getLsbD, List.getD_eq_default _ _ hb]

theorem statusWord_clearStatus_flag (v : Word) (s : State) {b : Nat} (hlow : 1 ≤ b) (hhigh : b ≤ 5) :
    (statusWord (clearStatus v s)).getLsbD b = ((statusWord s).getLsbD b && !v.getLsbD b) := by
  rw [statusWord_getLsbD, statusWord_getLsbD]
  interval_cases b <;> rfl

theorem statusWord_clearStatus_other (v : Word) (s : State) {b : Nat} (hb : b = 0 ∨ 6 ≤ b) :
    (statusWord (clearStatus v s)).getLsbD b = (statusWord s).getLsbD b := by
  obtain rfl | hres := hb
  · rw [statusWord_getLsbD, statusWord_getLsbD]
    rfl
  · rw [statusWord_getLsbD_res _ hres, statusWord_getLsbD_res _ hres]

/-- The mask 0x3E has every sticky flag, and the bits from 6 read 0 anyway. -/
theorem statusWord_clearStatus_all (s : State) {b : Nat} (hb : 1 ≤ b) :
    (statusWord (clearStatus 0x0000003E#32 s)).getLsbD b = false := by
  obtain hflag | hres : b ≤ 5 ∨ 6 ≤ b := by omega
  · have hset : (0x0000003E#32).getLsbD b = true := by interval_cases b <;> rfl
    rw [statusWord_clearStatus_flag _ s hb hflag, hset, Bool.not_true, Bool.and_false]
  · exact statusWord_getLsbD_res _ hres

/-- Settles O31: the write is `clearStatus`, and a read before or after it is `statusWord`. -/
theorem statusWriteOneToClear : Obligations.StatusWriteOneToClear := by
  intro s v
  have hat : ∀ t : State, regAt t.par 0x004 = some .status :=
    fun t => regAt_regOffset_of_ne_pmask t.par (r := .status) nofun
  have hwrite : memWrite 0x004 v s = .next (clearStatus v s) := memWrite_of_regAt v (hat s) nofun
  have hread : ∀ t : State, memRead t 0x004 = statusWord t := fun t => memRead_of_regAt (hat t)
  refine ⟨clearStatus v s, hwrite, rfl, ?_⟩
  simp only [hread]
  refine ⟨fun b => statusWord_clearStatus_flag v s, fun b => statusWord_clearStatus_other v s, ?_⟩
  rintro rfl b hb
  exact statusWord_clearStatus_all s hb

end Sys2Proof.Machine
end

section
/-! CheckConfig() in START and SYNTH (R105): its errors come before every other, and what follows when it returns. -/

namespace Sys2Proof.Machine

theorem raiseError_eq_raisedAs (c : Cause) (s : State) : raiseError c s = raisedAs c.code c.idx c.val s := rfl

/-! ### An error of CheckConfig() -/

section
variable {s : State} {c : Cause}

theorem startError_of_configError (h : configError s = some c) : startError s = some c := by
  rw [startError, h]
  rfl

theorem synthError_of_configError (arg : Half) (h : configError s = some c) : synthError arg s = some c := by
  rw [synthError, h]
  rfl

theorem execStart_of_startError (hidle : s.eng = .idle) (h : startError s = some c) :
    execStart s = .next (raiseError c s) := by
  simp [execStart, hidle, h]

theorem synth_of_synthError {dir : Dir} {arg : Half} (hidle : s.eng = .idle) (h : synthError arg s = some c) :
    synth dir arg s = .next (raiseError c s) := by
  simp [synth, hidle, h]

end

/-! ### The codes that come after CheckConfig() -/

/-- The codes of the checks that START and SYNTH make after CheckConfig() (R153, R161). -/
def laterCodes : List (BitVec 8) := [0x16, 0x17, 0x18, 0x21, 0x22, 0x23]

section
variable {s : State} {c : Cause}

theorem permError_code (h : permError s = some c) : c.code = 0x16 := by
  obtain ⟨-, rfl⟩ := Option.ite_some_none_eq_some.1 h
  rfl

theorem plenError_code (h : plenError s = some c) : c.code = 0x17 := by
  obtain ⟨-, rfl⟩ := Option.ite_some_none_eq_some.1 h
  rfl

theorem kindError_code (h : kindError s = some c) : c.code = 0x18 := by
  obtain ⟨j, -, hj⟩ := List.exists_of_findSome?_eq_some h
  obtain ⟨-, rfl⟩ := Option.ite_some_none_eq_some.1 hj
  rfl

theorem valueError_code (h : valueError s = some c) : c.code = 0x22 := by
  obtain ⟨j, -, hj⟩ := List.exists_of_findSome?_eq_some h
  obtain ⟨-, rfl⟩ := Option.ite_some_none_eq_some.1 hj
  rfl

theorem symbolError_code (h : symbolError s = some c) : c.code = 0x21 := by
  obtain ⟨p, -, rfl⟩ := Option.map_eq_some_iff.1 h
  rfl

/-- Once CheckConfig() has returned, START raises a code of its own checks. -/
theorem startError_code (hconf : configError s = none) (h : startError s = some c) : c.code ∈ laterCodes := by
  rw [startError, hconf] at h
  simp only [Option.none_or, Option.or_eq_some_iff] at h
  obtain h | ⟨-, h | ⟨-, h | ⟨-, h | ⟨-, h⟩⟩⟩⟩ := h
  · simp [permError_code h, laterCodes]
  · simp [plenError_code h, laterCodes]
  · simp [kindError_code h, laterCodes]
  · simp [valueError_code h, laterCodes]
  · simp [symbolError_code h, laterCodes]

/-- Once CheckConfig() has returned, SYNTH raises nothing but the range of ARG. -/
theorem synthError_code {arg : Half} (hconf : configError s = none) (h : synthError arg s = some c) :
    c.code ∈ laterCodes := by
  rw [synthError, hconf, Option.none_or] at h
  obtain ⟨-, rfl⟩ := Option.ite_some_none_eq_some.1 h
  simp [Cause.code, laterCodes]

end

/-! ### Acceptance -/

/-- Acceptance latches N and starts the engine, with or without a segment to load (R107). -/
theorem accept_next_nsamp_eng {opk : OpKind} {nseg : BitVec 17} {s t : State} (h : accept opk nseg s = .next t) :
    t.nsamp = segmentLength s.chirp ∧ t.eng = .run := by
  obtain ⟨-, rfl⟩ | ⟨-, hload⟩ := engineInit_next h
  · simp
  · obtain ⟨sym, dir, -, rfl⟩ := loadSeg_next hload
    simp

/-- The command went on after CheckConfig(): it was accepted with N latched, or it raised a later code. -/
def ProceedsWithN (s t : State) : Prop :=
  t.nsamp = segmentLength s.chirp ∧ t.eng = .run ∨ t.eng = .idle ∧ t.err = true ∧ t.errcode ∈ laterCodes

section
variable {s t : State}

theorem execStart_proceedsWithN (hidle : s.eng = .idle) (hconf : configError s = none) (h : execStart s = .next t) :
    ProceedsWithN s t := by
  obtain ⟨hrun, -⟩ | ⟨-, c, hc, rfl⟩ | ⟨-, -, hacc⟩ := execStart_next h
  · simp [hidle] at hrun
  · exact .inr ⟨hidle, rfl, startError_code hconf hc⟩
  · obtain ⟨hn, hrun⟩ := accept_next_nsamp_eng hacc
    exact .inl ⟨by simpa using hn, hrun⟩

theorem synth_proceedsWithN {dir : Dir} {arg : Half} (hidle : s.eng = .idle) (hconf : configError s = none)
    (h : synth dir arg s = .next t) : ProceedsWithN s t := by
  obtain ⟨hrun, -⟩ | ⟨-, c, hc, rfl⟩ | ⟨-, -, hacc⟩ := synth_next h
  · simp [hidle] at hrun
  · exact .inr ⟨hidle, rfl, synthError_code hconf hc⟩
  · obtain ⟨hn, hrun⟩ := accept_next_nsamp_eng hacc
    exact .inl ⟨by simpa using hn, hrun⟩

end

/-! ### START and SYNTH together -/

/-- The commands that call CheckConfig() (R105). -/
def ChecksConfig (i : Instr) : Prop := i = .start ∨ ∃ a, i = .synthUp a ∨ i = .synthDn a

theorem exec_of_configError {s : State} {i : Instr} {c : Cause} (hi : ChecksConfig i) (hidle : s.eng = .idle)
    (h : configError s = some c) : exec i s = .next (raisedAs c.code c.idx c.val s) := by
  rw [← raiseError_eq_raisedAs]
  obtain rfl | ⟨a, rfl | rfl⟩ := hi
  · exact execStart_of_startError hidle (startError_of_configError h)
  · exact synth_of_synthError hidle (synthError_of_configError a h)
  · exact synth_of_synthError hidle (synthError_of_configError a h)

theorem exec_of_configOk {s : State} {i : Instr} (hi : ChecksConfig i) (hidle : s.eng = .idle) (h : ConfigOk s) :
    ∃ t, exec i s = .next t ∧ ProceedsWithN s t := by
  have hconf : configError s = none := (configError_none_iff s).2 h
  obtain ⟨t, ht⟩ := exec_next_exists i s
  refine ⟨t, ht, ?_⟩
  obtain rfl | ⟨a, rfl | rfl⟩ := hi
  · exact execStart_proceedsWithN hidle hconf ht
  · exact synth_proceedsWithN hidle hconf ht
  · exact synth_proceedsWithN hidle hconf ht

/-- Settles O18: each clause's hypotheses pass the earlier conditions of `configError` and meet the next one. -/
theorem configurationErrorsInOrder : Obligations.ConfigurationErrorsInOrder := by
  intro s i hidle hi
  have hraise : ∀ c, configError s = some c → exec i s = .next (raisedAs c.code c.idx c.val s) :=
    fun c => exec_of_configError hi hidle
  refine ⟨fun hlow => hraise (.sfLow s.sf) ?sfLow, fun hsf hhigh => hraise (.sfHigh s.sf) ?sfHigh,
    fun hsf hmax hbw => hraise .bwZero ?bwZero, fun hsf hmax hbw hfs => hraise .fsZero ?fsZero,
    fun hsf hmax hbw hfs hn => hraise .nZero ?nZero,
    fun hsf hmax hbw hfs hn => exec_of_configOk hi hidle ⟨hsf, hmax, hbw, hfs, hn⟩⟩
  case sfLow => rw [configError, if_pos hlow]
  case sfHigh => rw [configError, if_neg (by omega), if_pos hhigh]
  case bwZero => rw [configError, if_neg (by omega), if_neg (by omega), if_pos hbw]
  case fsZero => rw [configError, if_neg (by omega), if_neg (by omega), if_neg hbw, if_pos hfs]
  case nZero =>
    have hzero : segmentLength s.chirp = 0 := hn
    rw [configError, if_neg (by omega), if_neg (by omega), if_neg hbw, if_neg hfs, if_pos hzero]

end Sys2Proof.Machine
end

section
/-! The commands that look at no register: NOP (R103) and the reserved opcodes (R104). -/

namespace Sys2Proof.Machine

theorem exec_nop (s : State) : exec .nop s = .next s := rfl

/-- Settles O9: OP 0 is decoded as NOP whatever the other bits. -/
theorem nopChangesNothing : Obligations.NopChangesNothing := by
  intro s
  refine ⟨exec_nop s, fun w hop => ?_⟩
  have hzero : (opField w).toNat = 0 := congrArg BitVec.toNat hop
  rw [decodeWord_nop hzero, exec_nop]

/-- Settles O10: a rejection is the flag CMDREJ alone, and every word from opcode 6 on is rejected. -/
theorem reservedOpcodeOnlyRejects : Obligations.ReservedOpcodeOnlyRejects :=
  ⟨fun _ _ => ⟨rfl, rfl⟩, fun s _ hop => exec_decodeWord_reserved hop s⟩

end Sys2Proof.Machine
end

section
/-! The two permutations (R123, R124): the loop of ginv as the xor of right shifts, and that g undoes ginv. -/

namespace Sys2Proof.Machine

theorem grayInvLoop_zero (fuel a : Nat) : grayInvLoop fuel a 0 = a := by
  cases fuel <;> rfl

theorem grayInvLoop_succ (fuel a n : Nat) :
    grayInvLoop (fuel + 1) a n = grayInvLoop fuel (a ^^^ n) (n >>> 1) := by
  rw [grayInvLoop]
  split
  · next hzero => simp [hzero, grayInvLoop_zero]
  · rfl

/-- The loop's rounds take the right shifts of `n` one after the other. -/
theorem grayInvLoop_eq_foldl (fuel a n : Nat) :
    grayInvLoop fuel a n = (List.range fuel).foldl (fun acc j => acc ^^^ (n >>> j)) a := by
  induction fuel generalizing a n with
  | zero => rfl
  | succ fuel ih =>
    simp only [grayInvLoop_succ, ih, List.range_succ_eq_map, List.foldl_cons, List.foldl_map, Nat.shiftRight_zero,
      Nat.succ_eq_one_add, Nat.shiftRight_add]

theorem shiftRight_one_lt_two_pow {n k : Nat} (h : n < 2 ^ (k + 1)) : n >>> 1 < 2 ^ k := by
  rw [Nat.shiftRight_one]
  omega

/-- Rounds beyond the width of `n` add nothing. -/
theorem grayInvLoop_eq_of_lt {k m a n : Nat} (hk : n < 2 ^ k) (hm : n < 2 ^ m) :
    grayInvLoop k a n = grayInvLoop m a n := by
  induction k generalizing m a n with
  | zero =>
    obtain rfl : n = 0 := by omega
    simp only [grayInvLoop_zero]
  | succ k ih =>
    cases m with
    | zero =>
      obtain rfl : n = 0 := by omega
      simp only [grayInvLoop_zero]
    | succ m =>
      rw [grayInvLoop_succ, grayInvLoop_succ]
      exact ih (shiftRight_one_lt_two_pow hk) (shiftRight_one_lt_two_pow hm)

/-- ginv of a number of `w` bits is the xor of its first `w` right shifts. -/
theorem grayInv_eq_foldl {n w : Nat} (h : n < 2 ^ w) :
    grayInv n = (List.range w).foldl (fun acc j => acc ^^^ (n >>> j)) 0 := by
  rw [grayInv, grayInvLoop_eq_of_lt Nat.lt_two_pow_self h, grayInvLoop_eq_foldl]

theorem gray_xor (m n : Nat) : gray (m ^^^ n) = gray m ^^^ gray n := by
  simp only [gray, Nat.shiftRight_xor_distrib]
  ac_rfl

/-- A round keeps `gray a ^^^ n`: what `gray` adds of the shifting value, the shift takes away. -/
theorem gray_grayInvLoop {fuel a n : Nat} (h : n < 2 ^ fuel) : gray (grayInvLoop fuel a n) = gray a ^^^ n := by
  induction fuel generalizing a n with
  | zero =>
    obtain rfl : n = 0 := by omega
    rw [grayInvLoop_zero, Nat.xor_zero]
  | succ fuel ih =>
    calc gray (grayInvLoop (fuel + 1) a n)
        = gray (a ^^^ n) ^^^ (n >>> 1) := by rw [grayInvLoop_succ, ih (shiftRight_one_lt_two_pow h)]
      _ = gray a ^^^ n := by rw [gray_xor, Nat.xor_assoc, gray.eq_def n, Nat.xor_xor_cancel_right]

theorem gray_grayInv (n : Nat) : gray (grayInv n) = n := by
  rw [grayInv, gray_grayInvLoop Nat.lt_two_pow_self, gray, Nat.zero_shiftRight, Nat.xor_zero, Nat.zero_xor]

end Sys2Proof.Machine
end

section
/-! The commands of the encoder: GRAYF (R126), GRAYI (R127) and MSGCLR (R121). -/

namespace Sys2Proof.Machine

/-- ARG above the opcode, as R126 and R127 write their words, is the word that R80's fields make. -/
theorem shift_or_eq_commandWord (op : BitVec 4) (n : Half) :
    (n.setWidth 32 <<< 16) ||| op.setWidth 32 = commandWord op 0 n := by
  refine BitVec.eq_of_getLsbD_eq fun i hi => ?_
  simp only [commandWord, BitVec.getLsbD_append, BitVec.getLsbD_or, BitVec.getLsbD_shiftLeft, BitVec.getLsbD_setWidth]
  by_cases hop : i < 4
  · have hlow : i < 16 := by omega
    simp [hop, hi, hlow]
  · have hnone : op.getLsbD i = false := BitVec.getLsbD_of_ge op i (by omega)
    by_cases harg : i < 16
    · have hignored : i - 4 - 1 < 11 := by omega
      simp [hop, hnone, harg, hignored]
    · have hdir : i - 4 ≠ 0 := by omega
      have hignored : ¬ i - 4 - 1 < 11 := by omega
      have hbit : i - 4 - 1 - 11 = i - 16 := by omega
      have hwidth : i - 16 < 32 := by omega
      simp [hop, hnone, harg, hi, hdir, hignored, hbit, hwidth]

theorem ofNat_gray (n : Half) : BitVec.ofNat 16 (gray n.toNat) = n ^^^ (n >>> 1) := by
  rw [gray, ← BitVec.toNat_ushiftRight, ← BitVec.toNat_xor, BitVec.ofNat_toNat, BitVec.setWidth_eq]

theorem ofNat_grayInv (n : Half) :
    BitVec.ofNat 16 (grayInv n.toNat) = (List.range 16).foldl (fun acc j => acc ^^^ (n >>> j)) 0#16 := by
  have hom := List.foldl_hom (l := List.range 16) (init := 0#16) BitVec.toNat (g₁ := fun acc j => acc ^^^ (n >>> j))
    (g₂ := fun acc j => acc ^^^ (n.toNat >>> j)) fun acc j => by rw [BitVec.toNat_xor, BitVec.toNat_ushiftRight]
  rw [BitVec.toNat_zero] at hom
  rw [grayInv_eq_foldl n.isLt, hom, BitVec.ofNat_toNat, BitVec.setWidth_eq]

theorem exec_grayf (s : State) (n : Half) : exec (.grayf n) s = .next { s with result := n ^^^ (n >>> 1) } := by
  rw [← ofNat_gray]
  rfl

theorem exec_grayi (s : State) (n : Half) :
    exec (.grayi n) s = .next { s with result := (List.range 16).foldl (fun acc j => acc ^^^ (n >>> j)) 0#16 } := by
  rw [← ofNat_grayInv]
  rfl

theorem exec_msgclr_of_idle {s : State} (h : s.eng = .idle) : exec .msgclr s = .next { s with msglen := 0 } := by
  simp [exec, execMsgclr, h]

/-- Settles O11: the word is read by its fields, and on 16 bits `gray` is the word's own xor and shift. -/
theorem grayfWritesForwardPermutation : Obligations.GrayfWritesForwardPermutation := by
  refine ⟨fun n => ?word, exec_grayf, fun s => exec_grayf s 0, fun s => exec_grayf s 0xFFFF⟩
  case word =>
    have hword : (n.setWidth 32 <<< 16) ||| 0x3#32 = commandWord 3 0 n := shift_or_eq_commandWord 3 n
    rw [hword, decodeWord_grayf (by simp), argField_commandWord]

/-- Settles O12: the word is read by its fields, and the loop of ginv is the xor of the 16 right shifts that a number of
16 bits has. -/
theorem grayiWritesInversePermutation : Obligations.GrayiWritesInversePermutation := by
  refine ⟨fun n => ?word, exec_grayi, fun s => exec_grayi s 0, fun s => exec_grayi s 0x8000,
    fun s => exec_grayi s 0xFFFF⟩
  case word =>
    have hword : (n.setWidth 32 <<< 16) ||| 0x4#32 = commandWord 4 0 n := shift_or_eq_commandWord 4 n
    rw [hword, decodeWord_grayi (by simp), argField_commandWord]

/-- Settles O14: OP 5 is decoded as MSGCLR whatever the other bits; a run rejects it as R101's other locked commands. -/
theorem msgclrEmptiesTheMessage : Obligations.MsgclrEmptiesTheMessage := by
  refine ⟨fun _ hop => decodeWord_msgclr (congrArg BitVec.toNat hop), fun s =>
    ⟨exec_msgclr_of_idle, fun hrun => ?run⟩⟩
  case run => exact exec_of_run hrun 0 .msgclr (by simp [lockedCommands])

end Sys2Proof.Machine
end

section
/-! The message: its bytes (R42), and what a MSGDATA push does to it (R120, R122). -/

namespace Sys2Proof.Machine

@[simp] theorem message_length (s : State) : s.message.length = s.msglen.toNat := by
  rw [State.message, List.length_map, List.length_range]

theorem message_getElem?_of_lt {s : State} {i : Nat} (h : i < s.msglen.toNat) :
    s.message[i]? = some (Memory.read s.msgbuf i) := by
  rw [State.message, List.getElem?_map, List.getElem?_range h, Option.map_some]

/-- A message that still fits in R6's greatest buffer keeps its length within the register. -/
theorem half_toNat_add_one_of_lt {n : Half} {bound : Nat} (hn : n.toNat < bound) (hbound : bound ≤ 8191) :
    (n + 1).toNat = n.toNat + 1 := by
  bv_omega

theorem appendByte_message (b : Byte) {s : State} (hwf : Memory.wf s.msgbuf)
    (hlen : (s.msglen + 1).toNat = s.msglen.toNat + 1) : (appendByte b s).message = s.message ++ [b] := by
  have hold : ∀ a ∈ List.range s.msglen.toNat,
      Memory.read (Memory.write s.msgbuf s.msglen.toNat b) a = Memory.read s.msgbuf a := fun a ha => by
    rw [memory_read_write _ _ _ hwf, if_neg (List.mem_range.1 ha).ne]
  rw [State.message, appendByte_msglen, appendByte_msgbuf, hlen, List.range_succ, List.map_append,
    List.map_congr_left hold, List.map_singleton, memory_read_write _ _ _ hwf, if_pos rfl, State.message]

theorem pushMessage_of_full {s : State} (v : Word) (hidle : s.eng = .idle) (hfull : s.msglen.toNat = s.par.msgMax) :
    pushMessage v s = reject .msgovf s := by
  simp [pushMessage, hidle, hfull]

theorem pushMessage_of_room {s : State} (v : Word) (hidle : s.eng = .idle) (hroom : s.msglen.toNat < s.par.msgMax) :
    pushMessage v s = appendByte (v.setWidth 8) s := by
  simp [pushMessage, hidle, hroom.ne]

/-- Settles O33: MSGDATA stands at 0x030, and `pushMessage` has a case for the lock, for the full buffer and for room;
the byte written is the one past the message's end. -/
theorem messagePush : Obligations.MessagePush := by
  intro s v
  have hwrite : memWrite 0x030 v s = .next (pushMessage v s) :=
    memWrite_of_regAt v (regAt_regOffset_of_ne_pmask s.par (r := .msgdata) nofun) nofun
  rw [hwrite]
  refine ⟨fun hrun => ?lock, fun hidle hfull => ?full, fun hidle hadm hroom hwf => ?append⟩
  case lock => rw [pushMessage_of_run v hrun]; rfl
  case full => rw [pushMessage_of_full v hidle hfull]; rfl
  case append =>
    obtain ⟨-, -, -, -, -, hmsgMax, -⟩ := hadm
    have hlen := half_toNat_add_one_of_lt hroom hmsgMax
    rw [pushMessage_of_room v hidle hroom]
    refine ⟨_, rfl, rfl, hlen, ?written, fun a ha => ?others, appendByte_message _ hwf hlen⟩
    case written => rw [appendByte_msgbuf, memory_read_write _ _ _ hwf, if_pos rfl]
    case others => rw [appendByte_msgbuf, memory_read_write _ _ _ hwf, if_neg ha]

end Sys2Proof.Machine
end

section
/-! The symbols of a message before their range check: raw bytes (R128), groups of SF bits (R129), and the permutation
over either (R130). -/

namespace Sys2Proof.Machine

/-! ### The permutation -/

theorem symbols_of_raw {s : State} (h : modeEnc s.mode = false) :
    s.symbols = (rawSymbols s.message).map (permute (modePerm s.mode)) := by
  simp [State.symbols, encodeMessage, h]

theorem symbols_of_bits {s : State} (h : modeEnc s.mode = true) :
    s.symbols = (bitSymbols s.message s.sf).map (permute (modePerm s.mode)) := by
  simp [State.symbols, encodeMessage, h]

/-- PERM 0, 1 and 2 over any pre-permutation symbols; ginv is told by what g takes it back to. -/
theorem getElem?_map_permute {pre : List Nat} {i v : Nat} (perm : BitVec 2) (h : pre[i]? = some v) :
    (perm = 0 → (pre.map (permute perm))[i]? = some v) ∧
    (perm = 1 → (pre.map (permute perm))[i]? = some (v ^^^ (v >>> 1))) ∧
    (perm = 2 → ∃ y, (pre.map (permute perm))[i]? = some y ∧ y ^^^ (y >>> 1) = v) := by
  rw [List.getElem?_map, h, Option.map_some]
  refine ⟨?_, ?_, ?_⟩
  · rintro rfl; rfl
  · rintro rfl; rfl
  · rintro rfl; exact ⟨grayInv v, rfl, gray_grayInv v⟩

/-- Settles O36: the bytes of the message, one symbol each, under the permutation. -/
theorem rawModeSymbols : Obligations.RawModeSymbols := by
  intro s henc
  rw [symbols_of_raw henc]
  refine ⟨?count, fun i hi => ?symbol⟩
  case count => rw [rawSymbols, List.length_map, List.length_map, message_length]
  case symbol =>
    have hpre : (rawSymbols s.message)[i]? = some (Memory.read s.msgbuf i).toNat := by
      rw [rawSymbols, List.getElem?_map, message_getElem?_of_lt hi, Option.map_some]
    rw [BitVec.toNat_xor, BitVec.toNat_ushiftRight]
    exact getElem?_map_permute _ hpre

/-! ### Groups of bits -/

/-- A sum of weighted bits, most significant first, is the number with these bits. -/
theorem sum_bits_eq_ofBits (f : Nat → Bool) (n : Nat) :
    ((List.range n).map fun t => (f t).toNat * 2 ^ (n - 1 - t)).sum = Nat.ofBits fun i : Fin n => f (n - 1 - i) := by
  induction n with
  | zero => rfl
  | succ n ih =>
    have hweight : ∀ t ∈ List.range n, (f t).toNat * 2 ^ (n + 1 - 1 - t) = 2 * ((f t).toNat * 2 ^ (n - 1 - t)) := by
      intro t ht
      have hexp : n + 1 - 1 - t = n - 1 - t + 1 := by have := List.mem_range.1 ht; omega
      rw [hexp, Nat.pow_succ', Nat.mul_left_comm]
    have htail : ((fun i : Fin (n + 1) => f (n + 1 - 1 - i)) ∘ Fin.succ) = fun i : Fin n => f (n - 1 - i) := by
      funext i
      have hidx : n + 1 - 1 - (i.succ : Nat) = n - 1 - i := by rw [Fin.val_succ]; omega
      rw [Function.comp_apply, hidx]
    rw [List.range_succ, List.map_append, List.sum_append, List.map_congr_left hweight, List.sum_map_mul_left, ih,
      Nat.ofBits_succ, htail]
    simp

theorem messageBit_eq_toNat (msg : List Byte) (x : Nat) :
    messageBit msg x = ((msg.getD (x / 8) 0#8).getLsbD (7 - x % 8)).toNat := by
  rw [messageBit, Bool.toNat, Bool.cond_eq_ite]

/-- Group `i` as the number whose bits, from the top, are the message's from `i * sf` on. -/
theorem bitGroup_eq_ofBits (msg : List Byte) (sf i : Nat) :
    bitGroup msg sf i = Nat.ofBits fun k : Fin sf =>
      (msg.getD ((i * sf + (sf - 1 - k)) / 8) 0#8).getLsbD (7 - (i * sf + (sf - 1 - k)) % 8) := by
  simp only [bitGroup, messageBit_eq_toNat]
  exact sum_bits_eq_ofBits (fun t => (msg.getD ((i * sf + t) / 8) 0#8).getLsbD (7 - (i * sf + t) % 8)) sf

theorem bitGroup_lt (msg : List Byte) (sf i : Nat) : bitGroup msg sf i < 2 ^ sf := by
  rw [bitGroup_eq_ofBits]
  exact Nat.ofBits_lt_two_pow _

theorem bitGroup_testBit (msg : List Byte) {sf t : Nat} (i : Nat) (ht : t < sf) :
    (bitGroup msg sf i).testBit (sf - 1 - t) =
      (msg.getD ((i * sf + t) / 8) 0#8).getLsbD (7 - (i * sf + t) % 8) := by
  have hback : sf - 1 - (sf - 1 - t) = t := by omega
  rw [bitGroup_eq_ofBits, Nat.testBit_ofBits_lt _ _ (by omega), hback]

/-- Bit b_x of the message in `s`: a bit of byte x / 8, or padding from bit 8 * MSGLEN on. -/
theorem message_getD_getLsbD (s : State) (x k : Nat) :
    (s.message.getD (x / 8) 0#8).getLsbD k =
      (decide (x < 8 * s.msglen.toNat) && (Memory.read s.msgbuf (x / 8)).getLsbD k) := by
  by_cases hx : x < 8 * s.msglen.toNat
  · have hbyte : x / 8 < s.msglen.toNat := by omega
    rw [List.getD_eq_getElem?_getD, message_getElem?_of_lt hbyte, Option.getD_some, decide_eq_true hx, Bool.true_and]
  · have hend : s.message.length ≤ x / 8 := by rw [message_length]; omega
    rw [List.getD_eq_default _ _ hend, BitVec.getLsbD_zero, decide_eq_false hx, Bool.false_and]

/-- ceil(8L / sf) groups are the least number that holds all bits. -/
theorem groupCount_mul_bounds (len : Nat) {sf : Nat} (hsf : 1 ≤ sf) :
    8 * len ≤ groupCount len sf * sf ∧ groupCount len sf * sf < 8 * len + sf := by
  have hdiv : groupCount len sf * sf + (8 * len + (sf - 1)) % sf = 8 * len + (sf - 1) := Nat.div_add_mod' _ sf
  have hmod : (8 * len + (sf - 1)) % sf < sf := Nat.mod_lt _ hsf
  omega

@[simp] theorem bitSymbols_length (msg : List Byte) (sf : Nat) :
    (bitSymbols msg sf).length = groupCount msg.length sf := by
  rw [bitSymbols, List.length_map, List.length_range]

theorem eq_bitGroup_of_getElem? {msg : List Byte} {sf i v : Nat} (h : (bitSymbols msg sf)[i]? = some v) :
    v = bitGroup msg sf i := by
  obtain ⟨_, hv⟩ := List.getElem?_eq_some_iff.1 h
  simpa [bitSymbols] using hv.symm

/-- Settles O37: the groups hold all bits and none is superfluous, each is the number its bits make, and the permutation
is over them. -/
theorem bitPartitionSymbols : Obligations.BitPartitionSymbols := by
  intro s henc hsf
  dsimp only
  rw [symbols_of_bits henc, List.length_map, bitSymbols_length, message_length]
  obtain ⟨hall, hleast⟩ := groupCount_mul_bounds s.msglen.toNat hsf
  refine ⟨hall, hleast, rfl, fun i v hv => ⟨?range, fun t ht => ?bits, getElem?_map_permute _ hv⟩⟩
  case range => rw [eq_bitGroup_of_getElem? hv]; exact bitGroup_lt _ _ i
  case bits => rw [eq_bitGroup_of_getElem? hv, bitGroup_testBit _ i ht, message_getD_getLsbD]

end Sys2Proof.Machine
end

section
/-! Slot(j) by the kind of the operation and the KIND of the descriptor (R162, R163). -/

namespace Sys2Proof.Machine

section
variable {s : State} {j : Nat} (hop : s.opk = .pkt)
include hop

theorem slotOf_pkt_kind_zero (hj : j < s.plen.toNat) (h : slotKind (s.slotWord j) = 0) :
    slotOf s j = some (0, .up) := by
  simp [slotOf, hop, hj, h]

theorem slotOf_pkt_kind_one (hj : j < s.plen.toNat) (h : slotKind (s.slotWord j) = 1) :
    slotOf s j = some (0, .down) := by
  simp [slotOf, hop, hj, h]

theorem slotOf_pkt_kind_two (hj : j < s.plen.toNat) (h : slotKind (s.slotWord j) = 2) :
    slotOf s j = some (slotValue (s.slotWord j), .down) := by
  simp [slotOf, hop, hj, h]

theorem slotOf_pkt_kind_three (hj : j < s.plen.toNat) (h : slotKind (s.slotWord j) = 3) : slotOf s j = none := by
  simp [slotOf, hop, hj, h]

theorem slotOf_pkt_payload (hplen : s.plen.toNat ≤ j) (hj : j < s.nseg.toNat) :
    slotOf s j = some (Memory.read s.symbuf (j - s.plen.toNat), .up) := by
  simp [slotOf, hop, hj, Nat.not_lt.2 hplen]

end

theorem slotOf_of_slotGood {s : State} {j : Nat} (h : slotGood s j = true) :
    ∃ sym dir, slotOf s j = some (sym, dir) ∧ sym.toNat < 2 ^ s.sf := by
  unfold slotGood at h
  split at h
  next sym dir hslot => exact ⟨sym, dir, hslot, of_decide_eq_true h⟩
  next => cases h

/-- Settles O46: a row of R162 or R163 each. -/
theorem slotMapping : Obligations.SlotMapping := fun _ _ =>
  ⟨fun hop hj => ⟨slotOf_pkt_kind_zero hop hj, slotOf_pkt_kind_one hop hj, slotOf_pkt_kind_two hop hj,
    slotOf_pkt_kind_three hop hj⟩, slotOf_pkt_payload, slotOf_one_zero⟩

end Sys2Proof.Machine
end

section
/-! The record sequence of an operation (R164): one segment's N records for each slot, one after another, and where R147
puts LAST. -/

namespace Sys2Proof.Machine

/-! ### Lists of one length, one after another -/

theorem length_flatMap_range {α : Type} {f : Nat → List α} {m n : Nat} (hlen : ∀ j < m, (f j).length = n) :
    ((List.range m).flatMap f).length = m * n := by
  rw [List.length_flatMap, List.sum_eq_card_nsmul _ n (by simpa using hlen), List.length_map, List.length_range,
    smul_eq_mul]

theorem getElem?_flatMap_range {α : Type} {f : Nat → List α} {m n j k : Nat} (hlen : ∀ j < m, (f j).length = n)
    (hj : j < m) (hk : k < n) : ((List.range m).flatMap f)[j * n + k]? = (f j)[k]? := by
  induction m with
  | zero => cases hj
  | succ m ih =>
    have hbefore : ((List.range m).flatMap f).length = m * n :=
      length_flatMap_range fun i hi => hlen i (Nat.lt_succ_of_lt hi)
    rw [List.range_succ, List.flatMap_append, List.flatMap_singleton]
    obtain hj | rfl := Nat.lt_succ_iff_lt_or_eq.1 hj
    · have hin : j * n + k < m * n := by
        calc j * n + k < (j + 1) * n := by rw [Nat.succ_mul]; omega
          _ ≤ m * n := Nat.mul_le_mul_right n hj
      rw [List.getElem?_append_left (hbefore ▸ hin), ih (fun i hi => hlen i (Nat.lt_succ_of_lt hi)) hj]
    · rw [List.getElem?_append_right (by omega), hbefore, Nat.add_sub_cancel_left]

/-! ### The records of a segment -/

@[simp] theorem synthesize_length (w : Nat) (c : ChirpConfig) (n sym : Nat) (dir : Dir) (lastSeg : Bool) :
    (synthesize w c n sym dir lastSeg).length = n := by
  rw [synthesize, List.length_map, List.length_range]

theorem synthesize_getElem?_of_lt (w : Nat) (c : ChirpConfig) {n k : Nat} (sym : Nat) (dir : Dir) (lastSeg : Bool)
    (hk : k < n) :
    (synthesize w c n sym dir lastSeg)[k]? =
      some (sampleOf w c (chirpAt c sym dir k).2 (decide (k = 0)) (lastSeg && decide (k + 1 = n))) := by
  rw [synthesize, List.getElem?_map, List.getElem?_range hk, Option.map_some]

theorem segmentRecords_of_slotOf {s : State} {j : Nat} {sym : Half} {dir : Dir} (h : slotOf s j = some (sym, dir)) :
    segmentRecords s j =
      synthesize s.par.outW s.chirp s.nsamp sym.toNat dir (decide (j + 1 = s.nseg.toNat)) := by
  simp only [segmentRecords, h]

theorem RunOk.segmentRecords_length {s : State} (h : RunOk s) {j : Nat} (hj : j < s.nseg.toNat) :
    (segmentRecords s j).length = s.nsamp := by
  obtain ⟨sym, dir, hslot, -⟩ := slotOf_of_slotGood (h.slots j hj)
  rw [segmentRecords_of_slotOf hslot, synthesize_length]

/-! ### The records of an operation -/

theorem RunOk.operationRecords_length {s : State} (h : RunOk s) :
    (operationRecords s).length = s.nseg.toNat * s.nsamp :=
  length_flatMap_range fun _ => h.segmentRecords_length

theorem RunOk.operationRecords_getElem? {s : State} (h : RunOk s) {j k : Nat} (hj : j < s.nseg.toNat)
    (hk : k < s.nsamp) : (operationRecords s)[j * s.nsamp + k]? = (segmentRecords s j)[k]? :=
  getElem?_flatMap_range (fun _ => h.segmentRecords_length) hj hk

/-- The last sample of the last segment is the one at which the whole sequence ends. -/
theorem last_segment_and_last_sample_iff {m n j k : Nat} (hj : j < m) (hk : k < n) :
    (j + 1 = m ∧ k + 1 = n) ↔ j * n + k + 1 = m * n := by
  constructor
  · rintro ⟨rfl, rfl⟩
    rw [Nat.succ_mul, Nat.add_assoc]
  · intro hend
    have hle : m * n ≤ (j + 1) * n := by rw [Nat.succ_mul]; omega
    have hm : j + 1 = m := Nat.le_antisymm hj (Nat.le_of_mul_le_mul_right hle (Nat.zero_lt_of_lt hk))
    subst hm
    rw [Nat.succ_mul] at hend
    exact ⟨rfl, by omega⟩

/-- Settles O58: each segment of a run has a slot and so N records, and LAST by segment and sample is LAST by place in
the sequence. -/
theorem operationRecords_spec : Obligations.OperationRecords := by
  intro s hinv hrun
  have hok : RunOk s := hinv.run_ok hrun
  refine ⟨hok.operationRecords_length, fun j k sym dir hj hk hslot => ?_⟩
  rw [hok.operationRecords_getElem? hj hk, segmentRecords_of_slotOf hslot, synthesize_getElem?_of_lt _ _ _ _ _ hk,
    ← Bool.decide_and, decide_eq_decide.2 (last_segment_and_last_sample_iff hj hk), sampleOf]

end Sys2Proof.Machine
end

section
/-! The engine's turn by which step is enabled (R166, R168). -/

namespace Sys2Proof.Machine

theorem engineStep_of_drained {s : State} (hrun : s.eng = .run) (hedone : s.edone = true) (hempty : s.outq = []) :
    engineStep s = .next (complete s) := by
  obtain ⟨-, hemit, -⟩ | ⟨-, -, -, hstep⟩ | ⟨-, hidle | ⟨hemit, -⟩ | ⟨-, hqueue⟩⟩ := engineStep_cases s
  · cases hedone.symm.trans hemit
  · exact hstep
  · cases hrun.symm.trans hidle
  · cases hedone.symm.trans hemit
  · exact absurd hempty hqueue

theorem engineStep_of_holding {s : State}
    (h : s.eng = .idle ∨ (s.eng = .run ∧ s.edone = false ∧ s.par.outDepth ≤ s.outq.length) ∨
      (s.eng = .run ∧ s.edone = true ∧ s.outq ≠ [])) : engineStep s = .next s := by
  obtain ⟨hrun, hemit, hroom, -⟩ | ⟨hrun, hedone, hempty, -⟩ | ⟨hstep, -⟩ := engineStep_cases s
  · simp [hrun, hemit, Nat.not_le.2 hroom] at h
  · simp [hrun, hedone, hempty] at h
  · exact hstep

/-- Settles O48: with the turn taken, the engine completes the drained operation, or holds. -/
theorem engineCompletesOrHolds : Obligations.EngineCompletesOrHolds := by
  intro s ts hturns
  have hstep : step s = engineStep (popTurn ts s) := step_of_turns_cons hturns
  rw [hstep]
  refine ⟨fun hrun hedone hempty => ⟨engineStep_of_drained hrun hedone hempty, ?busy⟩,
    fun h => engineStep_of_holding h⟩
  case busy => rw [statusWord_getLsbD]; rfl

end Sys2Proof.Machine
end

section
/-! The interrupt line by the bits of STATUS and IRQEN (R189). -/

namespace Sys2Proof.Machine

/-- R189's or, over the bits of the word STATUS reads. -/
theorem irq_eq_any (s : State) :
    s.irq = (List.range' 1 5).any fun b => (statusWord s).getLsbD b && s.irqen.getLsbD b := by
  simp only [State.irq, statusWord_getLsbD, List.range', List.any_cons, List.any_nil, Bool.or_false, Bool.or_assoc]
  rfl

theorem irq_eq_true_iff (s : State) :
    s.irq = true ↔ ∃ b, 1 ≤ b ∧ b ≤ 5 ∧ (statusWord s).getLsbD b = true ∧ s.irqen.getLsbD b = true := by
  simp only [irq_eq_any, List.any_eq_true, List.mem_range'_1, Bool.and_eq_true, and_assoc, Nat.lt_succ_iff]

/-- Settles O32: the host reads `statusWord` at 0x004 and IRQEN at 0x00C, and `irq` is the or of their common bits. -/
theorem irqIsEnabledStatus : Obligations.IrqIsEnabledStatus := by
  intro s
  have hstatus : memRead s 0x004 = statusWord s :=
    memRead_of_regAt (regAt_regOffset_of_ne_pmask s.par (r := .status) nofun)
  have hirqen : memRead s 0x00C = s.irqen :=
    memRead_of_regAt (regAt_regOffset_of_ne_pmask s.par (r := .irqen) nofun)
  rw [hstatus, hirqen]
  exact irq_eq_true_iff s

end Sys2Proof.Machine
end

section
/-! The commands while BUSY is 1 (R206). -/

namespace Sys2Proof.Machine

/-- BUSY, bit 0 of the word STATUS reads, is ENG = RUN. -/
theorem statusWord_busy_iff (s : State) : (statusWord s).getLsbD 0 = true ↔ s.eng = .run := by
  rw [statusWord_getLsbD]
  exact beq_iff_eq

/-- Settles O15: BUSY is ENG = RUN, which the locked commands ask for first and the other three never read. -/
theorem busyRejectsStartSynthMsgclr : Obligations.BusyRejectsStartSynthMsgclr := by
  intro s n hbusy
  have hrun : s.eng = .run := (statusWord_busy_iff s).1 hbusy
  have hlocked := exec_of_run hrun n
  simp only [lockedCommands, List.forall_mem_cons] at hlocked
  obtain ⟨hstart, hup, hdown, hmsgclr, -⟩ := hlocked
  exact ⟨hstart, hup, hdown, hmsgclr, exec_nop s, exec_grayf s n, _, exec_grayi s n⟩

end Sys2Proof.Machine
end

section
/-! The command word as bytes and as a word of the opcode table (R91 to R93), and its row of the table. -/

namespace Sys2Proof.Machine

/-! ### Decoding what was encoded -/

/-- R91, R93: the decoder undoes the assembler; a reserved row is met by the opcodes that well-formedness admits. -/
theorem decodeWord_encode {i : Instr} (h : i.wf = true) : decodeWord (encode i) = i := by
  cases i with
  | nop | start | msgclr => decide
  | synthUp a | synthDn a => rw [encode, decodeWord_synth (by simp)]; simp
  | grayf a => rw [encode, decodeWord_grayf (by simp), argField_commandWord]
  | grayi a => rw [encode, decodeWord_grayi (by simp), argField_commandWord]
  | reserved67 op =>
    have hop : op = 6 ∨ op = 7 := by simpa [Instr.wf] using h
    rw [encode, decodeWord_reserved67 ?_, opField_commandWord]
    rw [opField_commandWord]
    exact hop.imp (congrArg BitVec.toNat) (congrArg BitVec.toNat)
  | reserved8F op =>
    rw [encode, decodeWord_reserved8F ?_, opField_commandWord]
    rw [opField_commandWord]
    exact of_decide_eq_true h

/-- R62: four little-endian bytes of a number are its low 32 bits. -/
theorem wordOfBytes_of_number (v : Nat) :
    wordOfBytes (BitVec.ofNat 8 v) (BitVec.ofNat 8 (v / 256)) (BitVec.ofNat 8 (v / 256 / 256))
      (BitVec.ofNat 8 (v / 256 / 256 / 256)) = BitVec.ofNat 32 v := by
  refine BitVec.eq_of_toNat_eq ?_
  simp only [wordOfBytes, BitVec.toNat_append, BitVec.toNat_ofNat]
  repeat rw [← Nat.shiftLeft_add_eq_or_of_lt (Nat.mod_lt _ (Nat.two_pow_pos 8)), Nat.shiftLeft_eq]
  omega

theorem decode_bytesOf_four (v : Nat) : decode (bytesOf 4 v) = .ok (decodeWord (BitVec.ofNat 32 v)) := by
  rw [← wordOfBytes_of_number]
  rfl

/-- A word of the opcode table has at most the four bytes of a command. -/
theorem decodeTableWord_of_le {nbits : Nat} (h : nbits ≤ 32) (w : Nat) :
    decodeTableWord nbits w = some (decodeWord (BitVec.ofNat 32 (w % 2 ^ nbits))) := by
  have hlen : max 4 ((nbits + 7) / 8) = 4 := by omega
  rw [decodeTableWord, hlen, decode_bytesOf_four]

/-- Settles O1: bytes and table word are the bus word again, and the decoder gives its command back. -/
theorem decodeOfEncode : Obligations.DecodeOfEncode := by
  intro i hwf
  have hword : BitVec.ofNat 32 (encode i).toNat = encode i := by rw [BitVec.ofNat_toNat, BitVec.setWidth_eq]
  refine ⟨decodeWord_encode hwf, ?bytes, ?table⟩
  case bytes => rw [decode_bytesOf_four, hword, decodeWord_encode hwf]
  case table => rw [decodeTableWord_of_le le_rfl, Nat.mod_eq_of_lt (encode i).isLt, hword, decodeWord_encode hwf]

/-! ### The rows of the opcode table -/

/-- The bits that tell the rows apart: OP and DIR (R80). -/
def rowBits (w : Word) : Word := w &&& 0x0000001F#32

theorem rowBits_eq_setWidth (w : Word) : rowBits w = (w.setWidth 5).setWidth 32 :=
  (setWidth_setWidth_eq_and_low 5 w).symm

/-- "mask" and "match" of the nine rows of the opcode table. -/
def tableRows : List (Word × Word) :=
  [(0x0F#32, 0x00#32), (0x0F#32, 0x01#32), (0x1F#32, 0x02#32), (0x1F#32, 0x12#32), (0x0F#32, 0x03#32),
    (0x0F#32, 0x04#32), (0x0F#32, 0x05#32), (0x0E#32, 0x06#32), (0x08#32, 0x08#32)]

theorem row_mem_tableRows (i : Instr) : (rowMask i, rowMatch i) ∈ tableRows := by
  cases i <;> simp [rowMask, rowMatch, tableRows]

theorem and_rowMask (w : Word) (i : Instr) : w &&& rowMask i = rowBits w &&& rowMask i := by
  have htable : ∀ r ∈ tableRows, 0x0000001F#32 &&& r.1 = r.1 := by simp [tableRows]
  rw [rowBits, BitVec.and_assoc, htable _ (row_mem_tableRows i)]

theorem opField_rowBits (w : Word) : opField (rowBits w) = opField w := by
  ext i hi
  have h5 : i < 5 := by omega
  have h32 : i < 32 := by omega
  simp [rowBits_eq_setWidth, opField, h5, h32]

theorem dirField_rowBits (w : Word) : dirField (rowBits w) = dirField w := by
  simp [rowBits_eq_setWidth, dirField]

/-- OP and DIR alone fix the row of the decoded command; ARG is no part of a row. -/
theorem row_decodeWord_rowBits (w : Word) :
    (decodeWord w).wf = (decodeWord (rowBits w)).wf ∧
    rowMask (decodeWord w) = rowMask (decodeWord (rowBits w)) ∧
    rowMatch (decodeWord w) = rowMatch (decodeWord (rowBits w)) := by
  unfold decodeWord
  rw [opField_rowBits, dirField_rowBits]
  split
  case h_3 => split <;> exact ⟨rfl, rfl, rfl⟩
  all_goals exact ⟨rfl, rfl, rfl⟩

/-- The table over the 32 values of OP and DIR: every value lies in its command's row. -/
theorem rowBits_in_own_row (w : Word) :
    (decodeWord (rowBits w)).wf = true ∧
    rowBits w &&& rowMask (decodeWord (rowBits w)) = rowMatch (decodeWord (rowBits w)) := by
  rw [rowBits_eq_setWidth]
  generalize w.setWidth 5 = x
  revert x
  decide

/-- The same table, read row by row: a value that lies in a row is decoded to that row. -/
theorem rowMatch_unique (w : Word) (i : Instr) (h : rowBits w &&& rowMask i = rowMatch i) :
    rowMatch i = rowMatch (decodeWord (rowBits w)) := by
  have htable : ∀ r ∈ tableRows, ∀ x : BitVec 5, x.setWidth 32 &&& r.1 = r.2 →
      r.2 = rowMatch (decodeWord (x.setWidth 32)) := by
    simp only [tableRows, List.forall_mem_cons, List.not_mem_nil, false_imp_iff, implies_true, and_true]
    decide
  rw [rowBits_eq_setWidth] at h ⊢
  exact htable _ (row_mem_tableRows i) _ h

/-- Settles O3: rows are told apart by OP and DIR, so the table's 32 values decide. -/
theorem opcodeRowsPartitionWords : Obligations.OpcodeRowsPartitionWords := by
  intro w
  obtain ⟨hwf, hmask, hmatch⟩ := row_decodeWord_rowBits w
  obtain ⟨hownwf, hown⟩ := rowBits_in_own_row w
  refine ⟨hwf.trans hownwf, ?own, fun i _ hi => ?unique⟩
  case own => rw [and_rowMask, hmask, hmatch, hown]
  case unique => rw [hmatch, rowMatch_unique w i (and_rowMask w i ▸ hi)]

/-- Settles O4: closed words, read by the decoder. -/
theorem exampleWordsDecode : Obligations.ExampleWordsDecode := by
  unfold Obligations.ExampleWordsDecode
  decide

/-! ### Composed words (R86, R88) -/

/-- R88: MODE's fields do not overlap, and together they are the bits that MODE stores. -/
theorem modeWord_fields (sf : BitVec 5) (perm : BitVec 2) (enc : BitVec 1) :
    modeSf (modeWord sf perm enc) = sf ∧ modePerm (modeWord sf perm enc) = perm ∧
    modeEnc (modeWord sf perm enc) = enc.getLsbD 0 ∧ modeWord sf perm enc &&& modeMask = modeWord sf perm enc := by
  revert sf perm enc
  decide

/-- R86: a SYMBOL descriptor is laid out as a command word, KIND in the place of OP. -/
theorem slotDescriptor_sym (v : Half) : slotDescriptor (.sym v) = commandWord 2 0 v :=
  shift_or_eq_commandWord 2 v

theorem slotValue_commandWord (op : BitVec 4) (dir : BitVec 1) (arg : Half) :
    slotValue (commandWord op dir arg) = arg := argField_commandWord op dir arg

theorem slotKind_eq_opField (d : Word) : slotKind d = (opField d).setWidth 2 := by
  ext i hi
  have h4 : i < 4 := by omega
  simp [slotKind, opField, h4]

/-- VALUE and KIND are all that a slot stores. -/
theorem slotDescriptor_sym_and_slotMask (v : Half) :
    slotDescriptor (.sym v) &&& slotMask = slotDescriptor (.sym v) := by
  have hvalue : v.setWidth 32 <<< 16 &&& 0xFFFF0000#32 = v.setWidth 32 <<< 16 := by
    calc v.setWidth 32 <<< 16 &&& 0xFFFF0000#32
        = v.setWidth 32 <<< 16 &&& BitVec.allOnes 32 <<< 16 := rfl
      _ = v.setWidth 32 <<< 16 := by rw [← BitVec.shiftLeft_and_distrib, BitVec.and_allOnes]
  have hstored : v.setWidth 32 <<< 16 &&& slotMask = v.setWidth 32 <<< 16 := by
    rw [← hvalue, BitVec.and_assoc]
    rfl
  rw [slotDescriptor, BitVec.and_or_distrib_right, hstored]
  rfl

/-- Settles O6: the composed words field by field. -/
theorem modeAndSlotWordsHoldTheirFields : Obligations.ModeAndSlotWordsHoldTheirFields := by
  refine ⟨modeWord_fields, fun v => ⟨?kind, ?value, slotDescriptor_sym_and_slotMask v⟩⟩
  case kind => rw [slotDescriptor_sym, slotKind_eq_opField, opField_commandWord]; rfl
  case value => rw [slotDescriptor_sym, slotValue_commandWord]

/-! ### A step runs the command (R13) -/

theorem regAt_of_wordIndex_two {p : Config.Params} {a : Word} (h : wordIndex a = 2) : regAt p a = some .cmd := by
  rw [regAt, h]
  rfl

/-- R13, R101: a write that reaches CMD runs the command of the word. -/
theorem memWrite_of_regAt_cmd {s : State} {a : Word} (v : Word) (h : regAt s.par a = some .cmd) :
    memWrite a v s = exec (decodeWord v) s := by
  simp only [memWrite, h]

theorem hostStep_write {s : State} {a v : Word} {ps : List HostOp} (h : s.program = .write a 4 v :: ps) :
    hostStep s = memWrite a v (popOp ps s) := by
  simp [hostStep, h]

/-- Settles O7: the host's turn makes the write, which reaches CMD. -/
theorem stepRunsWrittenCommand : Obligations.StepRunsWrittenCommand := by
  intro s a v ts ps hts hps hidx
  have hstep : step s = exec (decodeWord v) { s with turns := ts, program := ps } := by
    calc step s = hostStep (popTurn ts s) := step_of_turns_cons hts
      _ = memWrite a v (popOp ps (popTurn ts s)) := hostStep_write hps
      _ = exec (decodeWord v) (popOp ps (popTurn ts s)) := memWrite_of_regAt_cmd v (regAt_of_wordIndex_two hidx)
  refine ⟨hstep, fun i hwf hv => ?_⟩
  rw [hstep, hv, decodeWord_encode hwf]

/-- Settles O8: the placed write is the host's next turn, and the table's word is read as the decoder reads the bus
word. -/
theorem placedCommandRunsNext : Obligations.PlacedCommandRunsNext := by
  intro s nbits w i hn hi
  rw [decodeTableWord_of_le hn, Option.some.injEq] at hi
  subst hi
  exact (stepRunsWrittenCommand _ _ _ _ _ rfl rfl rfl).1

end Sys2Proof.Machine
end

section
/-! The laws of the two permutations (R125), and what they leave to the range check of a symbol (R131). -/

namespace Sys2Proof.Machine

/-! ### The permutations undo each other and keep widths -/

theorem eq_zero_of_gray_eq_zero {n : Nat} (h : gray n = 0) : n = 0 := by
  have hshift : n = n >>> 1 := Nat.xor_eq_zero_iff.1 h
  rw [Nat.shiftRight_one] at hshift
  omega

/-- g is injective, as it is additive and only 0 goes to 0. -/
theorem gray_injective : Function.Injective gray := by
  intro m n h
  refine Nat.xor_eq_zero_iff.1 (eq_zero_of_gray_eq_zero ?_)
  rw [gray_xor, h, Nat.xor_self]

theorem grayInv_gray (n : Nat) : grayInv (gray n) = n := gray_injective (gray_grayInv (gray n))

theorem shiftRight_lt_two_pow {n w : Nat} (j : Nat) (h : n < 2 ^ w) : n >>> j < 2 ^ w :=
  lt_of_le_of_lt (Nat.shiftRight_le n j) h

theorem gray_lt {n w : Nat} (h : n < 2 ^ w) : gray n < 2 ^ w := Nat.xor_lt_two_pow h (shiftRight_lt_two_pow 1 h)

theorem grayInvLoop_lt {w : Nat} (fuel : Nat) {a n : Nat} (ha : a < 2 ^ w) (hn : n < 2 ^ w) :
    grayInvLoop fuel a n < 2 ^ w := by
  induction fuel generalizing a n with
  | zero => exact ha
  | succ fuel ih =>
    rw [grayInvLoop_succ]
    exact ih (Nat.xor_lt_two_pow ha hn) (shiftRight_lt_two_pow 1 hn)

theorem grayInv_lt {n w : Nat} (h : n < 2 ^ w) : grayInv n < 2 ^ w := grayInvLoop_lt n (Nat.two_pow_pos w) h

/-- Settles O13: ginv is the inverse of the injective g, and neither xor nor shift widens a number. -/
theorem grayPermutationLaws : Obligations.GrayPermutationLaws :=
  ⟨grayInv_gray, gray_grayInv, fun _ _ _ hn => ⟨gray_lt hn, grayInv_lt hn⟩, rfl, rfl, rfl⟩

/-! ### The range check (R131) -/

theorem gray_lt_iff (b sf : Nat) : gray b < 2 ^ sf ↔ b < 2 ^ sf :=
  ⟨fun h => grayInv_gray b ▸ grayInv_lt h, gray_lt⟩

theorem grayInv_lt_iff (b sf : Nat) : grayInv b < 2 ^ sf ↔ b < 2 ^ sf :=
  ⟨fun h => gray_grayInv b ▸ gray_lt h, grayInv_lt⟩

/-- No permutation moves a value across the range check. -/
theorem permute_lt_iff (perm : BitVec 2) (b sf : Nat) : permute perm b < 2 ^ sf ↔ b < 2 ^ sf := by
  unfold permute
  split
  · exact gray_lt_iff b sf
  · exact grayInv_lt_iff b sf
  · rfl

theorem rawSymbols_lt {msg : List Byte} {v : Nat} (h : v ∈ rawSymbols msg) : v < 2 ^ 8 := by
  obtain ⟨b, -, rfl⟩ := List.mem_map.1 h
  exact b.isLt

theorem bitSymbols_lt {msg : List Byte} {sf v : Nat} (h : v ∈ bitSymbols msg sf) : v < 2 ^ sf := by
  obtain ⟨i, -, rfl⟩ := List.mem_map.1 h
  exact bitGroup_lt msg sf i

/-- Only raw bytes can be wider than a symbol: a group has SF bits, whatever the permutation. -/
theorem symbolsOk_of_bits_or_wide {s : State} (h : modeEnc s.mode = true ∨ 8 ≤ s.sf) : SymbolsOk s := by
  intro v hv
  cases henc : modeEnc s.mode with
  | true =>
    rw [symbols_of_bits henc] at hv
    obtain ⟨u, hu, rfl⟩ := List.mem_map.1 hv
    exact (permute_lt_iff _ u _).2 (bitSymbols_lt hu)
  | false =>
    have hwide : 8 ≤ s.sf := h.resolve_left (by simp [henc])
    rw [symbols_of_raw henc] at hv
    obtain ⟨u, hu, rfl⟩ := List.mem_map.1 hv
    exact (permute_lt_iff _ u _).2 ((rawSymbols_lt hu).trans_le (Nat.pow_le_pow_right two_pos hwide))

/-- Settles O38: both consequences, for PERM 3 too. -/
theorem symbolRangeConsequences : Obligations.SymbolRangeConsequences :=
  ⟨fun _ _ _ => symbolsOk_of_bits_or_wide, fun perm b sf _ => permute_lt_iff perm b sf⟩

end Sys2Proof.Machine
end

section
/-! The arithmetic of a segment: N (R106), the moduli (R141), the recurrences (R142 to R144) and their closed forms
(R154). -/

namespace Sys2Proof.Machine

/-! ### N (R106) -/

theorem rhe_eq_zero_iff {p q : Nat} (hq : 0 < q) : rhe p q = 0 ↔ 2 * p ≤ q := by
  obtain ⟨hlow, hhigh, htie⟩ := roundHalfToEven p q hq
  constructor
  · intro h
    simpa [h] using hhigh
  · intro h
    by_contra hr
    have hone : q ≤ rhe p q * q := Nat.le_mul_of_pos_left q (Nat.pos_of_ne_zero hr)
    have heven : rhe p q % 2 = 0 := htie (.inl (by omega))
    have htwo : 2 * q ≤ rhe p q * q := Nat.mul_le_mul_right q (by omega)
    omega

theorem rhe_eq_one_iff {p q : Nat} (hq : 0 < q) : rhe p q = 1 ↔ q < 2 * p ∧ 2 * p < 3 * q := by
  obtain ⟨hlow, hhigh, htie⟩ := roundHalfToEven p q hq
  constructor
  · intro h
    rw [h] at hlow hhigh htie
    omega
  · rintro ⟨hpos, hlt⟩
    have hne : rhe p q ≠ 0 := fun h => by have := (rhe_eq_zero_iff hq).1 h; omega
    by_contra hr
    have htwo : 2 * q ≤ rhe p q * q := Nat.mul_le_mul_right q (by omega)
    omega

/-- Rounding a quotient does not go above the dividend. -/
theorem rhe_le {p q : Nat} (hq : 0 < q) : rhe p q ≤ p := by
  obtain ⟨hlow, -, -⟩ := roundHalfToEven p q hq
  by_contra hr
  have hmul : (p + 1) * q ≤ rhe p q * q := Nat.mul_le_mul_right q (by omega)
  have hp : p ≤ p * q := Nat.le_mul_of_pos_right p hq
  rw [Nat.succ_mul] at hmul
  omega

/-! ### The moduli (R141) -/

theorem modulusM_pos {c : ChirpConfig} (h : 0 < c.fs) : 0 < modulusM c := Nat.mul_pos h (Nat.two_pow_pos _)

theorem modulusD_pos {c : ChirpConfig} (h : 0 < c.fs) : 0 < modulusD c := Nat.mul_pos h (modulusM_pos h)

theorem modulusM_lt {s : State} (h : s.sf ≤ s.par.sfMax) : modulusM s.chirp < 2 ^ s.par.nw := by
  rw [Config.Params.nw, Nat.pow_add]
  exact Nat.mul_lt_mul_of_lt_of_le s.fs.isLt (Nat.pow_le_pow_right two_pos h) (Nat.two_pow_pos _)

theorem modulusD_lt {s : State} (h : s.sf ≤ s.par.sfMax) : modulusD s.chirp < 2 ^ s.par.phw := by
  have hphw : 2 ^ s.par.phw = 2 ^ 32 * 2 ^ s.par.nw := by
    rw [← Nat.pow_add, Config.Params.phw, Config.Params.nw, ← Nat.add_assoc]
  rw [hphw]
  exact Nat.mul_lt_mul_of_lt_of_le s.fs.isLt (modulusM_lt h).le (Nat.two_pow_pos _)

theorem segmentLength_lt {s : State} (hbw : s.bw ≠ 0) (h : s.sf ≤ s.par.sfMax) :
    segmentLength s.chirp < 2 ^ s.par.nw := by
  have hpos : 0 < s.chirp.bw := Nat.pos_of_ne_zero fun h0 => hbw (BitVec.eq_of_toNat_eq h0)
  exact (rhe_le hpos).trans_lt (modulusM_lt h)

/-- Settles O40: N = `rhe` of M and BW, by R9's rounding. -/
theorem segmentLengthConsequences : Obligations.SegmentLengthConsequences :=
  ⟨fun _ hbw => ⟨rhe_eq_zero_iff hbw, rhe_eq_one_iff hbw⟩,
    fun _ hconf => ⟨Nat.pos_of_ne_zero hconf.n_pos, segmentLength_lt hconf.bw_pos hconf.sf_high⟩⟩

/-- R31: a number of NW bits is its low word and what is above it. -/
theorem two_words {n m : Nat} (hm : m ≤ 15) (h : n < 2 ^ (32 + m)) :
    (BitVec.ofNat 32 n).toNat + 2 ^ 32 * (BitVec.ofNat 32 (n % 2 ^ (32 + m) / 2 ^ 32)).toNat = n ∧
    (BitVec.ofNat 32 (n % 2 ^ (32 + m) / 2 ^ 32)).toNat < 2 ^ m := by
  have hhigh : n / 2 ^ 32 < 2 ^ m := Nat.div_lt_of_lt_mul (by rwa [← Nat.pow_add])
  have hword : 2 ^ m ≤ 2 ^ 15 := Nat.pow_le_pow_right two_pos hm
  rw [Nat.mod_eq_of_lt h, BitVec.toNat_ofNat, BitVec.toNat_ofNat]
  omega

/-- Settles O35: the two registers are the two words of N. -/
theorem segmentLengthReadback : Obligations.SegmentLengthReadback := by
  intro s hadm hn
  obtain ⟨-, hsfMax, -⟩ := hadm
  have hlo : memRead s 0x024 = readReg s .nsampLo :=
    memRead_of_regAt (regAt_regOffset_of_ne_pmask s.par (r := .nsampLo) nofun)
  have hhi : memRead s 0x028 = readReg s .nsampHi :=
    memRead_of_regAt (regAt_regOffset_of_ne_pmask s.par (r := .nsampHi) nofun)
  rw [hlo, hhi]
  exact two_words hsfMax hn

/-! ### The shift (R142) -/

theorem shiftStart_lt {c : ChirpConfig} {sym : Nat} (hfs : 0 < c.fs) (hsym : sym < 2 ^ c.sf) :
    shiftStart c sym < modulusM c := Nat.mul_lt_mul_of_pos_left hsym hfs

theorem shiftNext_lt {c : ChirpConfig} (hfs : 0 < c.fs) (acc : Nat) : shiftNext c acc < modulusM c :=
  Nat.mod_lt _ (modulusM_pos hfs)

theorem phaseNext_lt {c : ChirpConfig} (hfs : 0 < c.fs) (dir : Dir) (acc phi : Nat) :
    phaseNext c dir acc phi < modulusD c := Nat.mod_lt _ (modulusD_pos hfs)

theorem chirpAt_shift_lt {c : ChirpConfig} {sym : Nat} (dir : Dir) (k : Nat) (hfs : 0 < c.fs) (hsym : sym < 2 ^ c.sf) :
    (chirpAt c sym dir k).1 < modulusM c := by
  cases k with
  | zero => exact shiftStart_lt hfs hsym
  | succ k => exact shiftNext_lt hfs _

/-- With N of 2 or more BW is no more than M. -/
theorem bw_le_modulusM {c : ChirpConfig} (hbw : 0 < c.bw) (hn : 2 ≤ segmentLength c) : c.bw ≤ modulusM c := by
  by_contra hlt
  have hm : modulusM c < c.bw := Nat.lt_of_not_le hlt
  have hzero : ¬2 * modulusM c ≤ c.bw := fun h => by
    have : segmentLength c = 0 := (rhe_eq_zero_iff hbw).2 h
    omega
  have hone : segmentLength c = 1 := (rhe_eq_one_iff hbw).2 ⟨Nat.lt_of_not_le hzero, show 2 * modulusM c < _ by omega⟩
  omega

/-- Settles O41: the sum of two numbers up to M is reduced by at most one subtraction. -/
theorem shiftWrapsBySubtraction : Obligations.ShiftWrapsBySubtraction := by
  intro c sym dir hfs hbw hn hsym k
  have hacc := chirpAt_shift_lt dir k hfs hsym
  have hle := bw_le_modulusM hbw hn
  refine ⟨hacc, ?_⟩
  show ((chirpAt c sym dir k).1 + c.bw) % modulusM c = _
  split
  next hwrap => rw [Nat.mod_eq_sub_mod hwrap, Nat.mod_eq_of_lt (by omega)]
  next hbelow => exact Nat.mod_eq_of_lt (Nat.lt_of_not_le hbelow)

/-- Settles O42: UP is BW times S, DOWN its mirror, and S is below M. -/
theorem frequencyRanges : Obligations.FrequencyRanges := by
  intro c acc hfs hbw hacc
  have hup : c.bw * acc < c.bw * modulusM c := Nat.mul_lt_mul_of_pos_left hacc hbw
  refine ⟨⟨c.bw * acc, rfl, hup, rfl⟩, ⟨c.bw * (modulusM c - acc), rfl, ?pos, ?le, ?eq⟩⟩
  case pos => exact Nat.mul_pos hbw (Nat.sub_pos_of_lt hacc)
  case le => exact Nat.mul_le_mul_left _ (Nat.sub_le _ _)
  case eq => rw [Nat.mul_right_inj hbw.ne']; omega

/-! ### The closed forms (R154) -/

/-- As long as the shift has not wrapped, it has grown by BW at each sample. -/
theorem chirpAt_shift_of_no_wrap {c : ChirpConfig} {sym j : Nat} (dir : Dir)
    (h : ∀ i, 1 ≤ i → i ≤ j → c.fs * sym + c.bw * i < modulusM c) :
    (chirpAt c sym dir j).1 = c.fs * sym + c.bw * j := by
  induction j with
  | zero => rfl
  | succ j ih =>
    have hprev : (chirpAt c sym dir j).1 = c.fs * sym + c.bw * j := ih fun i hi hij => h i hi (by omega)
    have hsum : c.fs * sym + c.bw * j + c.bw = c.fs * sym + c.bw * (j + 1) := by ring
    rw [chirpAt, shiftNext, hprev, hsum, Nat.mod_eq_of_lt (h (j + 1) (by omega) le_rfl)]

/-- PHI of UP, from the closed form of S. -/
theorem chirpAt_phase_up {c : ChirpConfig} {sym k : Nat}
    (h : ∀ j < k, (chirpAt c sym .up j).1 = c.fs * sym + c.bw * j) :
    (chirpAt c sym .up k).2 =
      (k * (c.bw * (c.fs * sym) + c.f0 * modulusM c) + c.bw ^ 2 * (k * (k - 1) / 2)) % modulusD c := by
  induction k with
  | zero => simp [chirpAt]
  | succ k ih =>
    rw [chirpAt, phaseNext, freqScaled, ih fun j hj => h j (by omega), h k (by omega), Nat.mod_add_mod,
      Nat.triangle_succ]
    dsimp only
    congr 1
    ring

/-- PHI of DOWN, from the closed form of S; the mirror M - S needs S to be no more than M. -/
theorem chirpAt_phase_down {c : ChirpConfig} {sym k : Nat}
    (h : ∀ j < k, (chirpAt c sym .down j).1 = c.fs * sym + c.bw * j)
    (hle : ∀ j < k, c.fs * sym + c.bw * j ≤ modulusM c) :
    (((chirpAt c sym .down k).2 : Nat) : Int) =
      ((k : Int) * (c.bw * ((modulusM c : Int) - c.fs * sym) + c.f0 * modulusM c) -
        c.bw ^ 2 * ((k * (k - 1) / 2 : Nat) : Int)) % (modulusD c : Int) := by
  induction k with
  | zero => simp [chirpAt]
  | succ k ih =>
    rw [chirpAt, phaseNext, freqScaled, h k (by omega), Int.natCast_mod, Nat.cast_add,
      ih (fun j hj => h j (by omega)) (fun j hj => hle j (by omega)), Int.emod_add_emod, Nat.triangle_succ]
    push_cast [hle k (by omega)]
    congr 1
    ring

/-- Settles O43: before the wrap the recurrences are arithmetic series. -/
theorem chirpClosedForms : Obligations.ChirpClosedForms := by
  intro c sym k hfs hwrap
  have hbelow : ∀ j < k, c.fs * sym + c.bw * j < modulusM c := by
    intro j hj
    have hmono : (c.bw : Int) * j ≤ c.bw * ((k : Int) - 1) := mul_le_mul_of_nonneg_left (by omega) (by omega)
    zify
    push_cast at hwrap
    omega
  have hshift : ∀ (dir : Dir), ∀ j < k, (chirpAt c sym dir j).1 = c.fs * sym + c.bw * j :=
    fun dir j hj => chirpAt_shift_of_no_wrap dir fun i _ hij => hbelow i (by omega)
  exact ⟨hshift, chirpAt_phase_up (hshift .up), chirpAt_phase_down (hshift .down) fun j hj => (hbelow j hj).le⟩

end Sys2Proof.Machine
end

section
/-! START and SYNTH through their checks (R153, R161): the first error raised, and that a raise changes no check. -/

namespace Sys2Proof.Machine

/-! ### The first error of a list -/

theorem findSome?_range_eq_some {α : Type} {f : Nat → Option α} {n j : Nat} {a : α} (hj : j < n) (hf : f j = some a)
    (hbefore : ∀ i < j, f i = none) : (List.range n).findSome? f = some a := by
  obtain ⟨m, rfl⟩ : ∃ m, n = j + (m + 1) := ⟨n - j - 1, by omega⟩
  have hnone : (List.range j).findSome? f = none :=
    List.findSome?_eq_none_iff.2 fun i hi => hbefore i (List.mem_range.1 hi)
  simp [List.range_add, List.findSome?_append, hnone, List.range_succ_eq_map, hf]

theorem firstOutOfRange_eq_some {bound i v : Nat} {l : List Nat} (hv : l[i]? = some v) (hbound : bound ≤ v)
    (hbefore : ∀ j < i, ∀ u, l[j]? = some u → u < bound) (k : Nat) :
    firstOutOfRange bound k l = some (k + i, v) := by
  induction l generalizing i k with
  | nil => cases hv
  | cons x xs ih =>
    cases i with
    | zero =>
      obtain rfl : x = v := by simpa using hv
      rw [firstOutOfRange, if_pos hbound, Nat.add_zero]
    | succ i =>
      have hx : ¬bound ≤ x := Nat.not_le.2 (hbefore 0 (Nat.succ_pos i) x rfl)
      rw [firstOutOfRange, if_neg hx, ih hv fun j hj u hu => hbefore (j + 1) (Nat.succ_lt_succ hj) u hu]
      congr 2
      omega

/-! ### The errors of START after CheckConfig() (R161, R182) -/

section
variable {s : State}

theorem permError_eq (h : modePerm s.mode = 3) : permError s = some .permReserved := if_pos h

theorem permError_eq_none (h : modePerm s.mode ≠ 3) : permError s = none := if_neg h

theorem plenError_eq (h : s.par.pmax < s.plen.toNat) : plenError s = some (.plenHigh s.plen.toNat) := if_pos h

theorem plenError_eq_none (h : s.plen.toNat ≤ s.par.pmax) : plenError s = none := if_neg (Nat.not_lt.2 h)

theorem kindError_eq {j : Nat} (hj : j < s.plen.toNat) (h : slotKind (s.slotWord j) = 3)
    (hbefore : ∀ i < j, slotKind (s.slotWord i) ≠ 3) : kindError s = some (.kindReserved j) :=
  findSome?_range_eq_some hj (if_pos h) fun i hi => if_neg (hbefore i hi)

theorem kindError_eq_none (h : ∀ j < s.plen.toNat, slotKind (s.slotWord j) ≠ 3) : kindError s = none :=
  List.findSome?_eq_none_iff.2 fun j hj => if_neg (h j (List.mem_range.1 hj))

theorem valueError_eq {j : Nat} (hj : j < s.plen.toNat) (hkind : slotKind (s.slotWord j) = 2)
    (hvalue : 2 ^ s.sf ≤ (slotValue (s.slotWord j)).toNat)
    (hbefore : ∀ i < j, slotKind (s.slotWord i) = 2 → (slotValue (s.slotWord i)).toNat < 2 ^ s.sf) :
    valueError s = some (.valueRange j (slotValue (s.slotWord j)).toNat) :=
  findSome?_range_eq_some hj (if_pos ⟨hkind, hvalue⟩) fun i hi =>
    if_neg fun h => Nat.not_le.2 (hbefore i hi h.1) h.2

theorem valueError_eq_none (h : ValuesOk s) : valueError s = none :=
  List.findSome?_eq_none_iff.2 fun j hj =>
    if_neg fun hj' => Nat.not_le.2 (h j (List.mem_range.1 hj) hj'.1) hj'.2

theorem symbolError_eq {i v : Nat} (hv : s.symbols[i]? = some v) (hrange : 2 ^ s.sf ≤ v)
    (hbefore : ∀ j < i, ∀ u, s.symbols[j]? = some u → u < 2 ^ s.sf) : symbolError s = some (.symbolRange i v) := by
  rw [symbolError, firstOutOfRange_eq_some hv hrange hbefore, Nat.zero_add, Option.map_some]

end

/-- Settles O19: with CheckConfig() passed, each clause's hypotheses pass the earlier checks and meet the next one. -/
theorem startChecksInOrder : Obligations.StartChecksInOrder := by
  intro s hidle hok
  have hconf : configError s = none := (configError_none_iff s).2 hok
  have hraise : ∀ c, (permError s).or ((plenError s).or ((kindError s).or ((valueError s).or (symbolError s)))) =
      some c → exec .start s = .next (raisedAs c.code c.idx c.val s) := fun c hc =>
    execStart_of_startError hidle (by rw [startError, hconf, Option.none_or, hc])
  refine ⟨fun hperm => hraise .permReserved ?perm, fun hperm hplen => ?plen,
    fun hperm hplen j hj hkind hbefore => hraise (.kindReserved j) ?kind,
    fun hmask j hj hkind hvalue hbefore => ?value,
    fun hmask hvalues i v hv hrange hbefore => hraise (.symbolRange i v) ?symbol⟩
  case perm => rw [permError_eq hperm, Option.some_or]
  case plen =>
    rw [← BitVec.ofNat_toNat]
    refine hraise (.plenHigh s.plen.toNat) ?_
    rw [permError_eq_none hperm, Option.none_or, plenError_eq hplen, Option.some_or]
  case kind =>
    rw [permError_eq_none hperm, Option.none_or, plenError_eq_none hplen, Option.none_or, kindError_eq hj hkind hbefore,
      Option.some_or]
  case value =>
    rw [← BitVec.ofNat_toNat]
    refine hraise (.valueRange j (slotValue (s.slotWord j)).toNat) ?_
    rw [permError_eq_none hmask.perm, Option.none_or, plenError_eq_none hmask.plen, Option.none_or,
      kindError_eq_none hmask.kinds, Option.none_or, valueError_eq hj hkind hvalue hbefore, Option.some_or]
  case symbol =>
    rw [permError_eq_none hmask.perm, Option.none_or, plenError_eq_none hmask.plen, Option.none_or,
      kindError_eq_none hmask.kinds, Option.none_or, valueError_eq_none hvalues, Option.none_or,
      symbolError_eq hv hrange hbefore]

/-- Settles O17: once CheckConfig() has passed, the range of ARG is all that SYNTH checks. -/
theorem synthArgumentError : Obligations.SynthArgumentError := by
  intro s arg hidle hok hrange
  have herror : synthError arg s = some (.argRange arg.toNat) := by
    rw [synthError, (configError_none_iff s).2 hok, Option.none_or, if_pos hrange]
  rw [← BitVec.ofNat_toNat]
  exact ⟨synth_of_synthError hidle herror, synth_of_synthError hidle herror⟩

end Sys2Proof.Machine
end

section
/-! Acceptance of START and SYNTH (R107, R153, R161, R165), and the three outcomes of the two commands (R101, R184). -/

namespace Sys2Proof.Machine

/-! ### What acceptance leaves -/

/-- Acceptance up to the engine's initialisation, for an operation that has a segment (R107, R165). -/
def armed (opk : OpKind) (nseg : BitVec 17) (s : State) : State := rewind false (armEngine opk nseg s)

/-- Acceptance of an operation with no segment (R165, R170; log 22). -/
def armedEmpty (opk : OpKind) (s : State) : State := leaveSegmentFree (rewind true (armEngine opk 0 s))

/-- What an accepted START latches besides the engine fields (R132; log 22). -/
def latchStart (s : State) : State := leaveArgFree (latchSymbols s.symbols s)

/-- NSEG of an accepted START (R161). -/
def startSegments (s : State) : BitVec 17 := BitVec.ofNat 17 (s.plen.toNat + s.symbols.length)

/-- An accepted operation has no segment, or stands at sample 0 of the segment of Slot(0). -/
theorem accept_cases {opk : OpKind} {nseg : BitVec 17} {s t : State} (h : accept opk nseg s = .next t) :
    (nseg = 0 ∧ t = armedEmpty opk s) ∨
    (nseg ≠ 0 ∧ ∃ sym dir, slotOf (armed opk nseg s) 0 = some (sym, dir) ∧
      t = setSegment sym dir (armed opk nseg s)) := by
  obtain ⟨hzero, rfl⟩ | ⟨hnseg, hload⟩ := engineInit_next h
  · obtain rfl : nseg = 0 := hzero
    exact .inl ⟨rfl, rfl⟩
  · exact .inr ⟨hnseg, loadSeg_next hload⟩

/-- The free values of S, PHI and K stand in the ranges of R36 and R37. -/
theorem armedEmpty_ranges (opk : OpKind) {s : State} (hfs : 0 < s.chirp.fs) (hn : segmentLength s.chirp ≠ 0) :
    (armedEmpty opk s).acc < modulusM s.chirp ∧ (armedEmpty opk s).phi < modulusD s.chirp ∧
    (armedEmpty opk s).k < segmentLength s.chirp := by
  rw [armedEmpty, leaveSegmentFree_acc, leaveSegmentFree_phi, leaveSegmentFree_k, rewind_chirp, armEngine_chirp,
    rewind_nsamp, armEngine_nsamp]
  exact ⟨Nat.mod_lt _ (modulusM_pos hfs), Nat.mod_lt _ (modulusD_pos hfs), Nat.mod_lt _ (Nat.pos_of_ne_zero hn)⟩

theorem accept_of_slotOf {opk : OpKind} {nseg : BitVec 17} {s : State} {sym : Half} {dir : Dir} (hnseg : nseg ≠ 0)
    (hslot : slotOf (armed opk nseg s) 0 = some (sym, dir)) :
    accept opk nseg s = .next (setSegment sym dir (armed opk nseg s)) := by
  rw [accept, engineInit, armEngine_nseg, if_neg hnseg]
  exact loadSeg_some hslot

theorem accept_empty (opk : OpKind) (s : State) : accept opk 0 s = .next (armedEmpty opk s) := by
  rw [accept, engineInit, armEngine_nseg, if_pos rfl]
  rfl

/-! ### SYNTH -/

theorem synth_accept {s : State} {arg : Half} (dir : Dir) (hidle : s.eng = .idle) (hok : ConfigOk s)
    (harg : arg.toNat < 2 ^ s.sf) :
    synth dir arg s = .next (setSegment arg dir (armed .one 1 (latchArg arg dir s))) := by
  have hnone : synthError arg s = none := (synthError_none_iff arg s).2 ⟨hok, harg⟩
  simp only [synth, hidle, reduceCtorEq, if_false, hnone]
  exact accept_of_slotOf (by decide) (slotOf_one_zero rfl)

/-- Settles O16: no check stops the command, and Slot(0) is its own symbol and direction. -/
theorem synthAccepted : Obligations.SynthAccepted := by
  intro s arg hidle hok harg
  refine ⟨(synth_accept .up hidle hok harg).trans ?_, (synth_accept .down hidle hok harg).trans ?_⟩ <;>
    (simp only [setSegment, armed, rewind, armEngine, latchArg]; rfl)

/-! ### START -/

theorem execStart_accept {s : State} (hidle : s.eng = .idle) (hok : ConfigOk s) (hmask : MaskOk s)
    (hvalues : ValuesOk s) (hsymbols : SymbolsOk s) :
    execStart s = accept .pkt (startSegments s) (latchStart s) := by
  have hnone : startError s = none := (startError_none_iff s).2 ⟨hok, hmask, hvalues, hsymbols⟩
  simp only [execStart, hidle, reduceCtorEq, if_false, hnone]
  rfl

theorem groupCount_le (len : Nat) {sf : Nat} (hsf : 1 ≤ sf) : groupCount len sf ≤ 8 * len := by
  obtain ⟨-, hlt⟩ := groupCount_mul_bounds len hsf
  by_contra hgt
  have hmul : (8 * len + 1) * sf ≤ groupCount len sf * sf := Nat.mul_le_mul_right sf (by omega)
  have hlen : 8 * len ≤ 8 * len * sf := Nat.le_mul_of_pos_right _ hsf
  rw [Nat.succ_mul] at hmul
  omega

/-- R43: a message of L bytes has at most 8L symbols. -/
theorem symbols_length_le {s : State} (hsf : 1 ≤ s.sf) : s.symbols.length ≤ 8 * s.msglen.toNat := by
  cases henc : modeEnc s.mode with
  | true =>
    rw [symbols_of_bits henc, List.length_map, bitSymbols_length, message_length]
    exact groupCount_le _ hsf
  | false =>
    rw [symbols_of_raw henc, List.length_map, rawSymbols, List.length_map, message_length]
    omega

/-- R6's ranges keep NSYM and NSEG within their registers. -/
theorem startSegments_toNat {s : State} (hadm : s.par.admissible) (hlen : s.msglen.toNat ≤ s.par.msgMax)
    (hsf : 1 ≤ s.sf) :
    (latchStart s).nsym.toNat = s.symbols.length ∧ (startSegments s).toNat = s.plen.toNat + s.symbols.length := by
  obtain ⟨-, -, -, -, -, hmsgMax, -⟩ := hadm
  have hsyms := symbols_length_le hsf
  have hplen : s.plen.toNat < 256 := s.plen.isLt
  rw [startSegments, latchStart, leaveArgFree_nsym, latchSymbols_nsym, BitVec.toNat_ofNat, BitVec.toNat_ofNat]
  omega

theorem symbol_lt_word {s : State} {v : Nat} (hadm : s.par.admissible) (hok : ConfigOk s) (hsymbols : SymbolsOk s)
    (hv : v ∈ s.symbols) : v < 2 ^ 16 := by
  obtain ⟨-, hsfMax, -⟩ := hadm
  have hsf : s.sf ≤ 16 := hok.sf_high.trans (by omega)
  exact (hsymbols v hv).trans_le (Nat.pow_le_pow_right two_pos hsf)

/-- SYMBUF of an accepted START: the symbols from address 0 on, and the old cells above them (R132). -/
theorem latchStart_symbuf_read {s : State} (hwf : Memory.wf s.symbuf) (i : Nat) :
    Memory.read (latchStart s).symbuf i =
      if i < s.symbols.length then BitVec.ofNat 16 (s.symbols.getD i 0) else Memory.read s.symbuf i := by
  rw [latchStart, leaveArgFree_symbuf, latchSymbols_symbuf, memory_read_writeAll _ _ _ hwf, List.length_map,
    Nat.zero_add, Nat.sub_zero]
  simp only [Nat.zero_le, true_and]
  split
  next hi => simp [List.getD_eq_getElem?_getD, hi]
  next => rfl

theorem latchStart_symbuf_read_of_symbol {s : State} {i v : Nat} (hwf : Memory.wf s.symbuf) (hv : s.symbols[i]? = some v)
    (hlt : v < 2 ^ 16) : (Memory.read (latchStart s).symbuf i).toNat = v := by
  obtain ⟨hi, -⟩ := List.getElem?_eq_some_iff.1 hv
  rw [latchStart_symbuf_read hwf, if_pos hi, List.getD_eq_getElem?_getD, hv, Option.getD_some, BitVec.toNat_ofNat,
    Nat.mod_eq_of_lt hlt]

@[simp] theorem latchStart_chirp (s : State) : (latchStart s).chirp = s.chirp := by simp [latchStart]

/-- The packet that START arms, as R162 and R163 read it. -/
theorem armed_latchStart (s : State) :
    let u := armed .pkt (startSegments s) (latchStart s)
    u.opk = .pkt ∧ u.plen = s.plen ∧ (∀ j, u.slotWord j = s.slotWord j) ∧ u.nseg = startSegments s ∧
      u.symbuf = (latchStart s).symbuf := by
  simp [armed, latchStart, State.slotWord]

/-- Settles O20: what acceptance latches, and segment 0 by PLEN and the KIND of slot 0. -/
theorem startAccepted : Obligations.StartAccepted := by
  intro s hadm hlen hwf hidle hok hmask hvalues hsymbols hpos
  obtain ⟨hnsym, hnseg⟩ := startSegments_toNat hadm hlen hok.sf_low
  obtain ⟨hopkU, hplenU, hwordU, hnsegU, hbufU⟩ := armed_latchStart s
  have hne : startSegments s ≠ 0 := fun h0 => by
    have hzero : (startSegments s).toNat = 0 := congrArg BitVec.toNat h0
    omega
  have hfirst : 0 < (armed .pkt (startSegments s) (latchStart s)).nseg.toNat := by rw [hnsegU, hnseg]; exact hpos
  have hplen : s.plen ≠ 0 → 0 < (armed .pkt (startSegments s) (latchStart s)).plen.toNat := fun h =>
    Nat.pos_of_ne_zero fun h0 => h (hplenU ▸ BitVec.eq_of_toNat_eq h0)
  obtain ⟨sym, dir, hslot⟩ := slotOf_pkt_exists hopkU hfirst fun h => by
    rw [hwordU]; exact hmask.kinds 0 (hplenU ▸ h)
  have hstart : execStart s = .next (setSegment sym dir (armed .pkt (startSegments s) (latchStart s))) :=
    (execStart_accept hidle hok hmask hvalues hsymbols).trans (accept_of_slotOf hne hslot)
  have hread : ∀ {v : Nat} (i : Nat), s.symbols[i]? = some v → (Memory.read (latchStart s).symbuf i).toNat = v :=
    fun i hv => latchStart_symbuf_read_of_symbol hwf hv (symbol_lt_word hadm hok hsymbols (List.mem_of_getElem? hv))
  refine ⟨_, hstart, ?frame, hnsym, hnseg, fun i v hv => hread i hv, fun i hi => ?others, fun hp => ?payload,
    fun hp hkind => ?up, fun hp hkind => ?down, fun hp hkind => ?literal⟩
  case frame =>
    simp only [setSegment, armed, rewind, armEngine, latchStart, leaveArgFree, latchSymbols]
    rfl
  case others => exact (latchStart_symbuf_read hwf i).trans (if_neg (Nat.not_lt.2 hi))
  case payload =>
    have hp0 : s.plen.toNat = 0 := congrArg BitVec.toNat hp
    have hrow := slotOf_pkt_payload hopkU (j := 0) (by rw [hplenU, hp0]) hfirst
    rw [hslot, hbufU, Option.some.injEq, Prod.mk.injEq] at hrow
    obtain ⟨rfl, rfl⟩ := hrow
    have hsym0 : s.symbols[0]? = some s.symbols[0] := List.getElem?_eq_getElem (by omega)
    rw [setSegment_csym, Nat.zero_sub, hread 0 hsym0]
    exact ⟨hsym0, rfl⟩
  case up =>
    have hrow := slotOf_pkt_kind_zero hopkU (hplen hp) (by rw [hwordU, hkind])
    exact Prod.mk.inj (Option.some.inj (hslot.symm.trans hrow))
  case down =>
    have hrow := slotOf_pkt_kind_one hopkU (hplen hp) (by rw [hwordU, hkind])
    exact Prod.mk.inj (Option.some.inj (hslot.symm.trans hrow))
  case literal =>
    have hrow := slotOf_pkt_kind_two hopkU (hplen hp) (by rw [hwordU, hkind])
    rw [hwordU] at hrow
    exact Prod.mk.inj (Option.some.inj (hslot.symm.trans hrow))

/-- R133: an empty message has no symbol. -/
theorem symbols_eq_nil {s : State} (hsf : 1 ≤ s.sf) (h : s.msglen = 0) : s.symbols = [] := by
  have hlen := symbols_length_le hsf
  rw [h] at hlen
  exact List.eq_nil_of_length_eq_zero (Nat.le_zero.1 hlen)

theorem step_engine_of_drained {t : State} (hrun : t.eng = .run) (hedone : t.edone = true) (hempty : t.outq = [])
    (ts : List Agent) :
    step { t with turns := .engine :: ts } = .next { t with turns := ts, eng := .idle, done := true } :=
  ((engineCompletesOrHolds { t with turns := .engine :: ts } ts rfl).1 hrun hedone hempty).1

/-- Settles O21: neither slot nor symbol, so NSEG is 0 and EDONE is set at once; then the completion step is enabled. -/
theorem startWithoutSegmentsCompletes : Obligations.StartWithoutSegmentsCompletes := by
  intro s hidle hok hperm hplen hmsglen hqueue
  have hp0 : s.plen.toNat = 0 := congrArg BitVec.toNat hplen
  have hsyms : s.symbols = [] := symbols_eq_nil hok.sf_low hmsglen
  have hfs : 0 < s.chirp.fs := Nat.pos_of_ne_zero fun h0 => hok.fs_pos (BitVec.eq_of_toNat_eq h0)
  have hmask : MaskOk s := ⟨hperm, by omega, fun j hj => by omega⟩
  have hvalues : ValuesOk s := fun j hj => by omega
  have hsymbols : SymbolsOk s := fun v hv => by simp [hsyms] at hv
  have hnseg : startSegments s = 0 := by rw [startSegments, hp0, hsyms]; rfl
  have hexec : exec .start s = .next (armedEmpty .pkt (latchStart s)) := by
    rw [← accept_empty, ← hnseg]
    exact execStart_accept hidle hok hmask hvalues hsymbols
  obtain ⟨hacc, hphi, hk⟩ := armedEmpty_ranges .pkt (s := latchStart s) (latchStart_chirp s ▸ hfs)
    (latchStart_chirp s ▸ hok.n_pos)
  rw [latchStart_chirp] at hacc hphi hk
  refine ⟨_, hexec, ?frame, hacc, hphi, ?k, fun ts => ?completes⟩
  case frame =>
    have hnsym : BitVec.ofNat 16 s.symbols.length = 0 := by rw [hsyms]; rfl
    have hbuf : Memory.writeAll s.symbuf 0 (s.symbols.map (BitVec.ofNat 16)) = s.symbuf := by rw [hsyms]; rfl
    simp only [armedEmpty, leaveSegmentFree, rewind, armEngine, latchStart, leaveArgFree, latchSymbols, hnsym, hbuf]
    rfl
  case k => simpa [armedEmpty] using hk
  case completes =>
    exact step_engine_of_drained (t := armedEmpty .pkt (latchStart s)) rfl rfl hqueue ts

/-! ### The three outcomes -/

/-- The codes of CheckConfig() (R105, R181). -/
def configCodes : List (BitVec 8) := [0x11, 0x12, 0x13, 0x14, 0x15]

theorem configError_code {s : State} {c : Cause} (h : configError s = some c) : c.code ∈ configCodes := by
  unfold configError at h
  split_ifs at h <;> (obtain rfl := Option.some.inj h; simp [Cause.code, configCodes])

theorem error_code {s : State} {c : Cause} (h : startError s = some c ∨ ∃ arg, synthError arg s = some c) :
    c.code ∈ configCodes ++ laterCodes := by
  cases hconf : configError s with
  | some d =>
    obtain rfl : d = c := by
      obtain h | ⟨arg, h⟩ := h
      · exact Option.some.inj ((startError_of_configError hconf).symm.trans h)
      · exact Option.some.inj ((synthError_of_configError arg hconf).symm.trans h)
    exact List.mem_append_left _ (configError_code hconf)
  | none =>
    obtain h | ⟨arg, h⟩ := h
    · exact List.mem_append_right _ (startError_code hconf h)
    · exact List.mem_append_right _ (synthError_code hconf h)

/-- The operation a command arms when it is accepted: its kind, NSEG, and what it has latched before. -/
inductive Arms : Instr → State → OpKind → BitVec 17 → State → Prop where
  | start (s : State) : MaskOk s → ValuesOk s → SymbolsOk s → Arms .start s .pkt (startSegments s) (latchStart s)
  | synthUp (s : State) (arg : Half) : arg.toNat < 2 ^ s.sf → Arms (.synthUp arg) s .one 1 (latchArg arg .up s)
  | synthDn (s : State) (arg : Half) : arg.toNat < 2 ^ s.sf → Arms (.synthDn arg) s .one 1 (latchArg arg .down s)

/-- R101, R184, R107: START and SYNTH are rejected, raise, or arm their operation. -/
theorem exec_three_outcomes {s t : State} {i : Instr} (hi : ChecksConfig i) (h : exec i s = .next t) :
    (s.eng = .run ∧ t = reject .cmdrej s) ∨
    (s.eng = .idle ∧ ∃ c, (startError s = some c ∨ ∃ arg, synthError arg s = some c) ∧ t = raiseError c s ∧
      exec i t = .next t) ∨
    (s.eng = .idle ∧ ConfigOk s ∧ ∃ opk nseg u, Arms i s opk nseg u ∧ accept opk nseg u = .next t) := by
  obtain rfl | ⟨arg, rfl | rfl⟩ := hi
  · obtain hrej | ⟨hidle, c, hc, rfl⟩ | ⟨hidle, hnone, hacc⟩ := execStart_next h
    · exact .inl hrej
    · exact .inr (.inl ⟨hidle, c, .inl hc, rfl, execStart_of_startError (s := raiseError c s) hidle hc⟩)
    · obtain ⟨hok, hmask, hvalues, hsymbols⟩ := (startError_none_iff s).1 hnone
      exact .inr (.inr ⟨hidle, hok, _, _, _, .start s hmask hvalues hsymbols, hacc⟩)
  · obtain hrej | ⟨hidle, c, hc, rfl⟩ | ⟨hidle, hnone, hacc⟩ := synth_next h
    · exact .inl hrej
    · exact .inr (.inl ⟨hidle, c, .inr ⟨arg, hc⟩, rfl, synth_of_synthError (s := raiseError c s) hidle hc⟩)
    · obtain ⟨hok, harg⟩ := (synthError_none_iff arg s).1 hnone
      exact .inr (.inr ⟨hidle, hok, _, _, _, .synthUp s arg harg, hacc⟩)
  · obtain hrej | ⟨hidle, c, hc, rfl⟩ | ⟨hidle, hnone, hacc⟩ := synth_next h
    · exact .inl hrej
    · exact .inr (.inl ⟨hidle, c, .inr ⟨arg, hc⟩, rfl, synth_of_synthError (s := raiseError c s) hidle hc⟩)
    · obtain ⟨hok, harg⟩ := (synthError_none_iff arg s).1 hnone
      exact .inr (.inr ⟨hidle, hok, _, _, _, .synthDn s arg harg, hacc⟩)

/-- What acceptance may write; everything else keeps its value (R107). -/
def AcceptFrame (s t : State) : Prop :=
  t = { s with
        nsamp := t.nsamp, done := false, eng := .run, opk := t.opk, symbuf := t.symbuf, nsym := t.nsym,
        nseg := t.nseg, seg := 0, edone := t.edone, csym := t.csym, cdir := t.cdir, asym := t.asym,
        adir := t.adir, acc := t.acc, phi := t.phi, k := t.k, free := t.free }

theorem Arms.acceptFrame {i : Instr} {s u t : State} {opk : OpKind} {nseg : BitVec 17} (h : Arms i s opk nseg u)
    (hacc : accept opk nseg u = .next t) : AcceptFrame s t := by
  obtain ⟨-, rfl⟩ | ⟨-, sym, dir, -, rfl⟩ := accept_cases hacc <;> cases h <;>
    simp only [AcceptFrame, armedEmpty, leaveSegmentFree, setSegment, armed, rewind, armEngine, latchStart,
      leaveArgFree, latchSymbols, latchArg]

theorem Arms.nsamp {i : Instr} {s u t : State} {opk : OpKind} {nseg : BitVec 17} (h : Arms i s opk nseg u)
    (hacc : accept opk nseg u = .next t) : t.nsamp = segmentLength s.chirp := by
  rw [(accept_next_nsamp_eng hacc).1]
  cases h <;> rfl

/-- Settles O23: the three outcomes, with the frame of each. -/
theorem startAndSynthHaveThreeOutcomes : Obligations.StartAndSynthHaveThreeOutcomes := by
  intro s t i hi h
  obtain hrej | ⟨hidle, c, hc, rfl, -⟩ | ⟨hidle, hok, opk, nseg, u, harms, hacc⟩ := exec_three_outcomes hi h
  · exact .inl hrej
  · refine .inr (.inl ⟨hidle, c.code, c.idx, c.val, rfl, ?_⟩)
    simpa [configCodes, laterCodes] using error_code hc
  · have hframe := harms.acceptFrame hacc
    refine .inr (.inr ⟨hidle, hok, ?_, ?_, harms.nsamp hacc, hframe⟩)
    · rw [hframe]
    · rw [hframe]

/-- Settles O24: a raise changes nothing that the checks read. -/
theorem raisedCommandRaisesAgain : Obligations.RaisedCommandRaisesAgain := by
  intro s t i hi hidle h ht
  obtain ⟨hrun, -⟩ | ⟨-, c, -, -, hagain⟩ | ⟨-, -, opk, nseg, u, -, hacc⟩ := exec_three_outcomes hi h
  · cases hidle.symm.trans hrun
  · exact hagain
  · cases ht.symm.trans (accept_next_nsamp_eng hacc).2

end Sys2Proof.Machine
end

section
/-! What a host's turn can do, said once: change only what no operation reads, store into the configuration or the
message while ENG = IDLE, or have an operation accepted. -/

namespace Sys2Proof.Machine

/-! ### Changes that no operation reads -/

/-- `s` with the flags, the error record, IRQEN, RESULT and SYMIDX of `t`, and its schedule, program and reads. -/
def takeQuiet (t s : State) : State :=
  { s with
    done := t.done, err := t.err, cmdrej := t.cmdrej, wign := t.wign, msgovf := t.msgovf, irqen := t.irqen
    result := t.result, errcode := t.errcode, erridx := t.erridx, errval := t.errval, symidx := t.symidx
    turns := t.turns, program := t.program, reads := t.reads }

/-- `t` differs from `s` only in what no operation, no sink and no buffer reads; IRQEN's RES bits stay 0, and turns are
only taken off the schedule. -/
structure Quiet (s t : State) : Prop where
  frame : t = takeQuiet t s
  irqen_res : s.irqen &&& ~~~irqenMask = 0 → t.irqen &&& ~~~irqenMask = 0
  turns : t.turns <:+ s.turns

theorem Quiet.refl (s : State) : Quiet s s := ⟨rfl, id, List.suffix_rfl⟩

/-- A change of flags, error record, RESULT, SYMIDX, program or reads. -/
theorem Quiet.of_frame {s t : State} (hframe : t = takeQuiet t s) (hirqen : t.irqen = s.irqen)
    (hturns : t.turns = s.turns) : Quiet s t :=
  ⟨hframe, hirqen ▸ id, hturns ▸ List.suffix_rfl⟩

theorem Quiet.trans {s t u : State} (h1 : Quiet s t) (h2 : Quiet t u) : Quiet s u := by
  refine ⟨?_, fun h => h2.irqen_res (h1.irqen_res h), h2.turns.trans h1.turns⟩
  calc u = takeQuiet u t := h2.frame
    _ = takeQuiet u (takeQuiet t s) := congrArg (takeQuiet u) h1.frame
    _ = takeQuiet u s := rfl

theorem quiet_popTurn {s : State} {a : Agent} {ts : List Agent} (h : s.turns = a :: ts) : Quiet s (popTurn ts s) :=
  ⟨rfl, id, h ▸ List.suffix_cons a ts⟩

theorem quiet_popOp (ps : List HostOp) (s : State) : Quiet s (popOp ps s) := .of_frame rfl rfl rfl

theorem quiet_noteRead (v : Word) (s : State) : Quiet s (noteRead v s) := .of_frame rfl rfl rfl

theorem quiet_raiseError (c : Cause) (s : State) : Quiet s (raiseError c s) := .of_frame rfl rfl rfl

theorem quiet_reject (f : RejFlag) (s : State) : Quiet s (reject f s) := by
  cases f <;> exact .of_frame rfl rfl rfl

/-! ### Stores while ENG = IDLE -/

/-- `s` with the configuration, the mask and the message of `t`, and what `takeQuiet` takes. -/
def takeStores (t s : State) : State :=
  { takeQuiet t s with
    fs := t.fs, bw := t.bw, f0 := t.f0, mode := t.mode, plen := t.plen, pmask := t.pmask
    msglen := t.msglen, msgbuf := t.msgbuf }

/-- R42, R44: the message fits its buffer, in the buffer's canonical form. -/
structure MessageOk (s : State) : Prop where
  len : s.msglen.toNat ≤ s.par.msgMax
  wf : Memory.wf s.msgbuf
  inside : ∀ c ∈ s.msgbuf, c.1 < s.par.msgMax

/-- `t` is `s` after a store: RES bits, the size of the mask file and the room of the message are respected. -/
structure Stores (s t : State) : Prop where
  frame : t = takeStores t s
  irqen_res : s.irqen &&& ~~~irqenMask = 0 → t.irqen &&& ~~~irqenMask = 0
  mode_res : s.mode &&& ~~~modeMask = 0 → t.mode &&& ~~~modeMask = 0
  pmask_res : (∀ d ∈ s.pmask, d &&& ~~~slotMask = 0) → ∀ d ∈ t.pmask, d &&& ~~~slotMask = 0
  pmask_size : t.pmask.length = s.pmask.length
  message : s.par.admissible → MessageOk s → MessageOk t
  turns : t.turns <:+ s.turns

theorem Stores.refl (s : State) : Stores s s := ⟨rfl, id, id, id, rfl, fun _ => id, List.suffix_rfl⟩

theorem Quiet.stores {s t : State} (h : Quiet s t) : Stores s t := by
  rw [h.frame]
  exact
    { Stores.refl s with
      frame := rfl, irqen_res := h.irqen_res, message := fun _ hm => { hm with }, turns := h.turns }

theorem Stores.trans {s t u : State} (h1 : Stores s t) (h2 : Stores t u) : Stores s u where
  frame :=
    calc u = takeStores u t := h2.frame
      _ = takeStores u (takeStores t s) := congrArg (takeStores u) h1.frame
      _ = takeStores u s := rfl
  irqen_res h := h2.irqen_res (h1.irqen_res h)
  mode_res h := h2.mode_res (h1.mode_res h)
  pmask_res h := h2.pmask_res (h1.pmask_res h)
  pmask_size := h2.pmask_size.trans h1.pmask_size
  message hadm hm := by
    have hpar : t.par = s.par := by rw [h1.frame]; rfl
    exact h2.message (hpar ▸ hadm) (h1.message hadm hm)
  turns := h2.turns.trans h1.turns

theorem stores_pmask (i : Nat) (v : Word) (s : State) :
    Stores s { s with pmask := s.pmask.set i (v &&& slotMask) } :=
  { Stores.refl s with
    frame := rfl
    pmask_res := fun h d hd => by
      obtain hd | rfl := List.mem_or_eq_of_mem_set hd
      · exact h d hd
      · exact and_mask_and_not v slotMask
    pmask_size := List.length_set
    message := fun _ hm => { hm with } }

theorem stores_mode (v : Word) (s : State) : Stores s { s with mode := v &&& modeMask } :=
  { Stores.refl s with
    frame := rfl, mode_res := fun _ => and_mask_and_not v modeMask, message := fun _ hm => { hm with } }

theorem stores_clear (s : State) : Stores s { s with msglen := 0 } :=
  { Stores.refl s with
    frame := rfl, message := fun _ hm => { hm with len := Nat.zero_le _ } }

theorem stores_appendByte (b : Byte) {s : State} (hroom : s.msglen.toNat ≠ s.par.msgMax) : Stores s (appendByte b s) :=
  { Stores.refl s with
    frame := rfl
    message := fun hadm hm => by
      obtain ⟨-, -, -, -, -, hmsgMax, -⟩ := hadm
      have hlt : s.msglen.toNat < s.par.msgMax := Nat.lt_of_le_of_ne hm.len hroom
      refine ⟨?_, memory_write_wf _ _ hm.wf, fun c hc => ?_⟩
      · rw [appendByte_msglen, half_toNat_add_one_of_lt hlt hmsgMax]
        exact hlt
      · obtain rfl | hc := memory_write_mem hc
        · exact hlt
        · exact hm.inside c hc }

/-! ### The effect of a host's turn -/

/-- What a host's turn does; `accepts` is a START or SYNTH that armed its operation, after the turn and the bus
operation were taken off. -/
inductive HostEffect (s t : State) : Prop where
  | quiet (h : Quiet s t)
  | stores (hidle : s.eng = .idle) (h : Stores s t)
  | accepts (u w : State) (i : Instr) (opk : OpKind) (nseg : BitVec 17) (hq : Quiet s u) (hidle : u.eng = .idle)
      (hok : ConfigOk u) (harms : Arms i u opk nseg w) (hacc : accept opk nseg w = .next t)

theorem Quiet.eng {s t : State} (h : Quiet s t) : t.eng = s.eng := by rw [h.frame]; rfl

theorem Quiet.hostEffect {s t u : State} (hq : Quiet s t) (h : HostEffect t u) : HostEffect s u := by
  cases h with
  | quiet h => exact .quiet (hq.trans h)
  | stores hidle h => exact .stores (hq.eng ▸ hidle) (hq.stores.trans h)
  | accepts v w i opk nseg hq' hidle hok harms hacc =>
    exact .accepts v w i opk nseg (hq.trans hq') hidle hok harms hacc

theorem hostEffect_of_checksConfig {i : Instr} {s t : State} (hi : ChecksConfig i) (h : exec i s = .next t) :
    HostEffect s t := by
  obtain ⟨-, rfl⟩ | ⟨-, c, -, rfl, -⟩ | ⟨hidle, hok, opk, nseg, u, harms, hacc⟩ := exec_three_outcomes hi h
  · exact .quiet (quiet_reject .cmdrej s)
  · exact .quiet (quiet_raiseError c s)
  · exact .accepts s u i opk nseg (Quiet.refl s) hidle hok harms hacc

theorem exec_effect {i : Instr} {s t : State} (h : exec i s = .next t) : HostEffect s t := by
  cases i with
  | start => exact hostEffect_of_checksConfig (.inl rfl) h
  | synthUp arg => exact hostEffect_of_checksConfig (.inr ⟨arg, .inl rfl⟩) h
  | synthDn arg => exact hostEffect_of_checksConfig (.inr ⟨arg, .inr rfl⟩) h
  | nop => cases h; exact .quiet (Quiet.refl s)
  | grayf | grayi => cases h; exact .quiet (.of_frame rfl rfl rfl)
  | reserved67 | reserved8F => cases h; exact .quiet (quiet_reject .cmdrej s)
  | msgclr =>
    cases heng : s.eng with
    | idle =>
      rw [exec_msgclr_of_idle heng] at h
      cases h
      exact .stores heng (stores_clear s)
    | run =>
      rw [exec_of_run heng 0 .msgclr (by simp [lockedCommands])] at h
      cases h
      exact .quiet (quiet_reject .cmdrej s)

theorem lockedWrite_effect {s t : State} (h : Stores s t) : HostEffect s (lockedWrite s t) := by
  obtain ⟨-, ht⟩ | ⟨hidle, ht⟩ := lockedWrite_cases s t
  · rw [ht]; exact .quiet (quiet_reject .wign s)
  · rw [ht]; exact .stores hidle h

theorem pushMessage_effect (v : Word) (s : State) : HostEffect s (pushMessage v s) := by
  obtain ⟨-, ht⟩ | ⟨-, -, ht⟩ | ⟨hidle, hroom, ht⟩ := pushMessage_cases v s
  · rw [ht]; exact .quiet (quiet_reject .wign s)
  · rw [ht]; exact .quiet (quiet_reject .msgovf s)
  · rw [ht]; exact .stores hidle (stores_appendByte _ hroom)

theorem writeReg_effect (r : Reg) (v : Word) (s : State) : HostEffect s (writeReg r v s) := by
  cases r with
  | fs | bw | f0 | plen => exact lockedWrite_effect { Stores.refl s with frame := rfl, message := fun _ hm => { hm with } }
  | mode => exact lockedWrite_effect (stores_mode v s)
  | pmask i => exact lockedWrite_effect (stores_pmask i v s)
  | msgdata => exact pushMessage_effect v s
  | irqen => exact .quiet ⟨rfl, fun _ => and_mask_and_not v irqenMask, List.suffix_rfl⟩
  | status | symidx => exact .quiet (.of_frame rfl rfl rfl)
  | _ => exact .quiet (Quiet.refl s)

theorem memWrite_effect {a v : Word} {s t : State} (h : memWrite a v s = .next t) : HostEffect s t := by
  obtain ⟨-, hexec⟩ | ⟨r, -, -, rfl⟩ | ⟨-, rfl⟩ := memWrite_next h
  · exact exec_effect hexec
  · exact writeReg_effect r v s
  · exact .quiet (Quiet.refl _)

theorem hostStep_effect {s t : State} (h : hostStep s = .next t) : HostEffect s t := by
  obtain ⟨-, rfl⟩ | ⟨v, ps, rfl⟩ | ⟨a, v, rest, -, hwrite⟩ := hostStep_next h
  · exact .quiet (Quiet.refl _)
  · exact .quiet ((quiet_popOp ps s).trans (quiet_noteRead v _))
  · exact (quiet_popOp rest s).hostEffect (memWrite_effect hwrite)

theorem HostEffect.quiet_of_run {s t : State} (hrun : s.eng = .run) (h : HostEffect s t) : Quiet s t := by
  cases h with
  | quiet h => exact h
  | stores hidle _ => cases hrun.symm.trans hidle
  | accepts u w i opk nseg hq hidle _ _ _ => cases hrun.symm.trans (hq.eng.symm.trans hidle)

end Sys2Proof.Machine
end

section
/-! What an operation reads (R70, R140, R162 to R164), bundled: its slots, its records and its run depend on nothing else. -/

namespace Sys2Proof.Machine

/-- The configuration, the mask, the symbols and the operation's own fields. -/
def operation (s : State) :=
  ((s.fs, s.bw, s.f0, s.mode), (s.plen, s.pmask, s.nsym, s.symbuf), (s.nsamp, s.opk, s.nseg, s.asym, s.adir))

theorem chirp_of_operation {s t : State} (h : operation t = operation s) : t.chirp = s.chirp := by
  simp only [operation, Prod.mk.injEq] at h
  obtain ⟨⟨hfs, hbw, hf0, hmode⟩, -⟩ := h
  exact chirp_congr hfs hbw hf0 hmode

theorem nsamp_nseg_of_operation {s t : State} (h : operation t = operation s) :
    t.nsamp = s.nsamp ∧ t.nseg = s.nseg := by
  simp only [operation, Prod.mk.injEq] at h
  obtain ⟨-, -, hnsamp, -, hnseg, -⟩ := h
  exact ⟨hnsamp, hnseg⟩

theorem slotOf_of_operation {s t : State} (h : operation t = operation s) (j : Nat) : slotOf t j = slotOf s j := by
  simp only [operation, Prod.mk.injEq] at h
  obtain ⟨-, ⟨hplen, hpmask, -, hsymbuf⟩, -, hopk, hnseg, hasym, hadir⟩ := h
  simp only [slotOf, State.slotWord, hplen, hpmask, hsymbuf, hopk, hnseg, hasym, hadir]

theorem slotGood_of_operation {s t : State} (h : operation t = operation s) (j : Nat) : slotGood t j = slotGood s j := by
  have hsf : t.sf = s.sf := congrArg ChirpConfig.sf (chirp_of_operation h)
  simp only [slotGood, slotOf_of_operation h j, hsf]

theorem nsegOf_of_operation {s t : State} (h : operation t = operation s) : nsegOf t = nsegOf s := by
  simp only [operation, Prod.mk.injEq] at h
  obtain ⟨-, ⟨hplen, -, hnsym, -⟩, -, hopk, -⟩ := h
  simp only [nsegOf, hplen, hnsym, hopk]

/-- The record sequence reads the operation and the width of its words. -/
theorem operationRecords_of_operation {s t : State} (h : operation t = operation s) (hw : t.par.outW = s.par.outW) :
    operationRecords t = operationRecords s := by
  obtain ⟨hnsamp, hnseg⟩ := nsamp_nseg_of_operation h
  have hseg : segmentRecords t = segmentRecords s := by
    funext j
    simp only [segmentRecords, slotOf_of_operation h j, hw, chirp_of_operation h, hnsamp, hnseg]
  rw [operationRecords, operationRecords, hseg, hnseg]

/-- A run of the same operation goes on as long as the position and the accumulators keep their ranges. -/
theorem RunOk.of_operation {s t : State} (hok : RunOk s) (h : operation t = operation s)
    (hsfMax : t.par.sfMax = s.par.sfMax) (hk : t.k < s.nsamp) (hacc : t.acc < modulusM s.chirp)
    (hphi : t.phi < modulusD s.chirp) (hemitting : t.edone = false → t.seg.toNat < s.nseg.toNat)
    (hfinished : t.edone = true → t.seg = s.nseg) : RunOk t := by
  have hchirp := chirp_of_operation h
  have hsf : t.sf = s.sf := congrArg ChirpConfig.sf hchirp
  obtain ⟨hnsamp, hnseg⟩ := nsamp_nseg_of_operation h
  have hslots : ∀ j < t.nseg.toNat, slotGood t j = true := by
    rw [hnseg]
    exact fun j hj => (slotGood_of_operation h j).trans (hok.slots j hj)
  have hcount : t.nseg.toNat = nsegOf t := by rw [hnseg, nsegOf_of_operation h]; exact hok.nseg_eq
  simp only [operation, Prod.mk.injEq] at h
  obtain ⟨⟨hfs, hbw, -, -⟩, -⟩ := h
  exact
    { sf_low := hsf ▸ hok.sf_low, sf_high := by rw [hsf, hsfMax]; exact hok.sf_high
      bw_pos := hbw ▸ hok.bw_pos, fs_pos := hfs ▸ hok.fs_pos
      nsamp_eq := by rw [hnsamp, hchirp]; exact hok.nsamp_eq
      nsamp_pos := hnsamp ▸ hok.nsamp_pos, nseg_eq := hcount, slots := hslots
      k_lt := hnsamp ▸ hk, acc_lt := hchirp ▸ hacc, phi_lt := hchirp ▸ hphi
      emitting := hnseg ▸ hemitting, finished := hnseg ▸ hfinished }

end Sys2Proof.Machine
end

section
/-! The machine's invariant (R44) under the turns of the host and of reset: quiet changes, stores and acceptance keep it. -/

namespace Sys2Proof.Machine

theorem statusWord_busy (s : State) : (statusWord s).getLsbD 0 = decide (s.eng = .run) := by
  rw [Bool.eq_iff_iff, statusWord_busy_iff, decide_eq_true_iff]

/-! ### Quiet changes and stores -/

theorem Inv.quiet {s t : State} (h : Inv s) (hq : Quiet s t) : Inv t := by
  rw [hq.frame]
  exact
    { h with
      busy_is_run := statusWord_busy _
      irqen_res := hq.irqen_res h.irqen_res
      run_ok := fun hr => { h.run_ok hr with } }

theorem Inv.messageOk {s : State} (h : Inv s) : MessageOk s := ⟨h.msglen_le, h.msgbuf_wf, h.msgbuf_in⟩

theorem Inv.stores {s t : State} (h : Inv s) (hidle : s.eng = .idle) (hst : Stores s t) : Inv t := by
  have hmsg : MessageOk (takeStores t s) := hst.frame ▸ hst.message h.params h.messageOk
  rw [hst.frame]
  exact
    { h with
      busy_is_run := statusWord_busy _
      irqen_res := hst.irqen_res h.irqen_res
      mode_res := hst.mode_res h.mode_res
      pmask_res := hst.pmask_res h.pmask_res
      pmask_size := hst.pmask_size.trans h.pmask_size
      msglen_le := hmsg.len
      msgbuf_wf := hmsg.wf
      msgbuf_in := hmsg.inside
      run_ok := fun hrun => by cases hidle.symm.trans hrun }

/-! ### Acceptance -/

/-- An operation that a passed check makes ready: what the latched state has to satisfy for a run to start from it. -/
structure Ready (opk : OpKind) (nseg : BitVec 17) (u : State) : Prop where
  inv : Inv u
  config : ConfigOk u
  nseg_eq : nseg.toNat = nsegOf (armed opk nseg u)
  slots : ∀ j < nseg.toNat, slotGood (armed opk nseg u) j = true

theorem slotGood_of_slotOf {s : State} {j : Nat} {sym : Half} {dir : Dir} (h : slotOf s j = some (sym, dir))
    (hsym : sym.toNat < 2 ^ s.sf) : slotGood s j = true := by
  simp only [slotGood, h, hsym, decide_true]

theorem ConfigOk.fs_toNat_pos {s : State} (h : ConfigOk s) : 0 < s.chirp.fs :=
  Nat.pos_of_ne_zero fun h0 => h.fs_pos (BitVec.eq_of_toNat_eq h0)

/-- The invariant does not read ASYM and ADIR of an idle machine. -/
theorem ready_latchArg {s : State} {arg : Half} (dir : Dir) (h : Inv s) (hidle : s.eng = .idle) (hok : ConfigOk s)
    (harg : arg.toNat < 2 ^ s.sf) : Ready .one 1 (latchArg arg dir s) where
  inv := { h with run_ok := fun hrun => by cases hidle.symm.trans hrun }
  config := { hok with }
  nseg_eq := rfl
  slots j hj := by
    obtain rfl : j = 0 := Nat.lt_one_iff.1 hj
    exact slotGood_of_slotOf (slotOf_one_zero rfl) harg

/-- Preamble slots pass by their KIND and VALUE, payload slots by the range of the latched symbols. -/
theorem slotGood_latchStart {s : State} (h : Inv s) (hok : ConfigOk s) (hmask : MaskOk s) (hvalues : ValuesOk s)
    (hsymbols : SymbolsOk s) {j : Nat} (hj : j < (startSegments s).toNat) :
    slotGood (armed .pkt (startSegments s) (latchStart s)) j = true := by
  obtain ⟨-, hnseg⟩ := startSegments_toNat h.params h.msglen_le hok.sf_low
  obtain ⟨hopkU, hplenU, hwordU, hnsegU, hbufU⟩ := armed_latchStart s
  have hsfU : (armed .pkt (startSegments s) (latchStart s)).sf = s.sf := rfl
  have hpow : 0 < 2 ^ s.sf := Nat.two_pow_pos _
  by_cases hpre : j < s.plen.toNat
  · have hpreU : j < (armed .pkt (startSegments s) (latchStart s)).plen.toNat := by rw [hplenU]; exact hpre
    have hkinds : ∀ x : BitVec 2, x ≠ 3 → x = 0 ∨ x = 1 ∨ x = 2 := by decide
    obtain hkind | hkind | hkind := hkinds _ (hmask.kinds j hpre)
    · exact slotGood_of_slotOf (slotOf_pkt_kind_zero hopkU hpreU (by rw [hwordU, hkind])) (by rw [hsfU]; exact hpow)
    · exact slotGood_of_slotOf (slotOf_pkt_kind_one hopkU hpreU (by rw [hwordU, hkind])) (by rw [hsfU]; exact hpow)
    · refine slotGood_of_slotOf (slotOf_pkt_kind_two hopkU hpreU (by rw [hwordU, hkind])) ?_
      rw [hwordU, hsfU]
      exact hvalues j hpre hkind
  · have hlt : j - s.plen.toNat < s.symbols.length := by omega
    have hread := latchStart_symbuf_read_of_symbol h.symbuf_wf (List.getElem?_eq_getElem hlt)
      (symbol_lt_word h.params hok hsymbols (List.getElem_mem hlt))
    refine slotGood_of_slotOf (slotOf_pkt_payload hopkU (by rw [hplenU]; omega) (by rw [hnsegU]; exact hj)) ?_
    rw [hsfU, hplenU, hbufU, hread]
    exact hsymbols _ (List.getElem_mem hlt)

theorem ready_latchStart {s : State} (h : Inv s) (hidle : s.eng = .idle) (hok : ConfigOk s) (hmask : MaskOk s)
    (hvalues : ValuesOk s) (hsymbols : SymbolsOk s) : Ready .pkt (startSegments s) (latchStart s) := by
  obtain ⟨hnsym, hnseg⟩ := startSegments_toNat h.params h.msglen_le hok.sf_low
  have hlen : s.symbols.length ≤ s.par.symMax :=
    (symbols_length_le hok.sf_low).trans (Nat.mul_le_mul_left 8 h.msglen_le)
  refine ⟨?inv, { hok with }, ?nseg, fun j => slotGood_latchStart h hok hmask hvalues hsymbols⟩
  case inv =>
    exact
      { h with
        nsym_le := hnsym.trans_le hlen
        symbuf_wf := memory_writeAll_wf _ 0 h.symbuf_wf
        symbuf_in := fun c hc => by
          obtain hc | ⟨-, hc⟩ := memory_writeAll_mem _ hc
          · exact h.symbuf_in c hc
          · rw [List.length_map, Nat.zero_add] at hc
            exact hc.trans_le hlen
        run_ok := fun hrun => by cases hidle.symm.trans hrun }
  case nseg => rw [hnseg, ← hnsym]; rfl

theorem Arms.ready {i : Instr} {s u : State} {opk : OpKind} {nseg : BitVec 17} (harms : Arms i s opk nseg u)
    (h : Inv s) (hidle : s.eng = .idle) (hok : ConfigOk s) : Ready opk nseg u := by
  cases harms with
  | start _ hmask hvalues hsymbols => exact ready_latchStart h hidle hok hmask hvalues hsymbols
  | synthUp _ arg harg => exact ready_latchArg .up h hidle hok harg
  | synthDn _ arg harg => exact ready_latchArg .down h hidle hok harg

/-- A run's own ranges are within the widths of R6. -/
theorem RunOk.fits {s : State} (h : RunOk s) :
    s.nsamp < 2 ^ s.par.nw ∧ s.k < 2 ^ s.par.nw ∧ s.acc < 2 ^ s.par.nw ∧ s.phi < 2 ^ s.par.phw := by
  have hn : s.nsamp < 2 ^ s.par.nw := h.nsamp_eq ▸ segmentLength_lt h.bw_pos h.sf_high
  exact ⟨hn, h.k_lt.trans hn, h.acc_lt.trans (modulusM_lt h.sf_high), h.phi_lt.trans (modulusD_lt h.sf_high)⟩

theorem RunOk.fs_toNat_pos {s : State} (h : RunOk s) : 0 < s.chirp.fs :=
  Nat.pos_of_ne_zero fun h0 => h.fs_pos (BitVec.eq_of_toNat_eq h0)

theorem RunOk.seg_le {s : State} (h : RunOk s) : s.seg.toNat ≤ s.nseg.toNat := by
  cases hdone : s.edone with
  | false => exact (h.emitting hdone).le
  | true => rw [h.finished hdone]

theorem Ready.runOk_empty {opk : OpKind} {u : State} (h : Ready opk 0 u) : RunOk (armedEmpty opk u) := by
  obtain ⟨hacc, hphi, hk⟩ := armedEmpty_ranges opk h.config.fs_toNat_pos h.config.n_pos
  exact
    { h.config with
      nsamp_eq := rfl
      nsamp_pos := Nat.pos_of_ne_zero h.config.n_pos
      nseg_eq := h.nseg_eq
      slots := fun j hj => absurd hj (Nat.not_lt_zero j)
      k_lt := hk, acc_lt := hacc, phi_lt := hphi
      emitting := nofun, finished := fun _ => rfl }

theorem sym_lt_of_slotGood {s : State} {j : Nat} {sym : Half} {dir : Dir} (h : slotGood s j = true)
    (hslot : slotOf s j = some (sym, dir)) : sym.toNat < 2 ^ s.sf := by
  obtain ⟨sym', dir', hslot', hlt⟩ := slotOf_of_slotGood h
  obtain ⟨rfl, rfl⟩ := Prod.mk.inj (Option.some.inj (hslot.symm.trans hslot'))
  exact hlt

theorem Ready.runOk_segment {opk : OpKind} {nseg : BitVec 17} {u : State} {sym : Half} {dir : Dir}
    (h : Ready opk nseg u) (hnseg : nseg ≠ 0) (hslot : slotOf (armed opk nseg u) 0 = some (sym, dir)) :
    RunOk (setSegment sym dir (armed opk nseg u)) := by
  have hpos : 0 < nseg.toNat := Nat.pos_of_ne_zero fun h0 => hnseg (BitVec.eq_of_toNat_eq h0)
  have hsym : sym.toNat < 2 ^ u.sf := sym_lt_of_slotGood (s := armed opk nseg u) (h.slots 0 hpos) hslot
  exact
    { h.config with
      nsamp_eq := rfl
      nsamp_pos := Nat.pos_of_ne_zero h.config.n_pos
      nseg_eq := h.nseg_eq
      slots := h.slots
      k_lt := Nat.pos_of_ne_zero h.config.n_pos
      acc_lt := shiftStart_lt h.config.fs_toNat_pos hsym
      phi_lt := modulusD_pos h.config.fs_toNat_pos
      emitting := fun _ => hpos, finished := nofun }

/-- What the invariant asks for whatever the engine does, the queue aside. -/
def invInputs (s : State) :=
  (s.par, s.irqen, s.mode, s.pmask, s.msglen, s.msgbuf, s.nsym, s.symbuf)

/-- A step that leads to a running state has to keep `RunOk` and the room in OUTQ; the widths follow. -/
theorem Inv.of_run {s t : State} (h : Inv s) (hin : invInputs t = invInputs s) (hrun : t.eng = .run) (hok : RunOk t)
    (hqueue : t.outq.length ≤ s.par.outDepth) : Inv t := by
  simp only [invInputs, Prod.mk.injEq] at hin
  obtain ⟨hpar, hirqen, hmode, hpmask, hmsglen, hmsgbuf, hnsym, hsymbuf⟩ := hin
  obtain ⟨hn, hk, ha, hp⟩ := hok.fits
  exact
    { params := by rw [hpar]; exact h.params
      busy_is_run := statusWord_busy t
      irqen_res := by rw [hirqen]; exact h.irqen_res
      mode_res := by rw [hmode]; exact h.mode_res
      pmask_res := by rw [hpmask]; exact h.pmask_res
      pmask_size := by rw [hpmask, hpar]; exact h.pmask_size
      msglen_le := by rw [hmsglen, hpar]; exact h.msglen_le
      msgbuf_wf := by rw [hmsgbuf]; exact h.msgbuf_wf
      msgbuf_in := by rw [hmsgbuf, hpar]; exact h.msgbuf_in
      nsym_le := by rw [hnsym, hpar]; exact h.nsym_le
      symbuf_wf := by rw [hsymbuf]; exact h.symbuf_wf
      symbuf_in := by rw [hsymbuf, hpar]; exact h.symbuf_in
      nsamp_fits := hn, k_fits := hk, acc_fits := ha, phi_fits := hp
      seg_le := hok.seg_le
      outq_le := by rw [hpar]; exact hqueue
      idle_drained := fun hidle => by cases hrun.symm.trans hidle
      run_ok := fun _ => hok }

theorem Ready.inv_of_accept {opk : OpKind} {nseg : BitVec 17} {u t : State} (h : Ready opk nseg u)
    (hacc : accept opk nseg u = .next t) : Inv t := by
  have hrun : t.eng = .run := (accept_next_nsamp_eng hacc).2
  obtain ⟨rfl, rfl⟩ | ⟨hnseg, sym, dir, hslot, rfl⟩ := accept_cases hacc
  · exact h.inv.of_run (by simp [invInputs, armedEmpty]) hrun h.runOk_empty (by simpa [armedEmpty] using h.inv.outq_le)
  · exact h.inv.of_run (by simp [invInputs, armed]) hrun (h.runOk_segment hnseg hslot)
      (by simpa [armed] using h.inv.outq_le)

theorem Inv.hostEffect {s t : State} (h : Inv s) (heff : HostEffect s t) : Inv t := by
  cases heff with
  | quiet hq => exact h.quiet hq
  | stores hidle hst => exact h.stores hidle hst
  | accepts u w i opk nseg hq hidle hok harms hacc => exact (harms.ready (h.quiet hq) hidle hok).inv_of_accept hacc

/-! ### Reset -/

theorem resetMask_res (pmax : Nat) : ∀ d ∈ resetMask pmax, d &&& ~~~slotMask = 0 := by
  intro d hd
  obtain hd | hd := List.mem_append.1 hd
  · rw [List.eq_of_mem_replicate hd]; rfl
  · rw [List.eq_of_mem_replicate hd]; rfl

/-- R45's values satisfy R44, in whatever state the reset comes. -/
theorem inv_resetStep {s : State} (hadm : s.par.admissible) : Inv (resetStep s) := by
  have hadm' := hadm
  obtain ⟨-, -, hpmax, -⟩ := hadm
  have hsize : (resetMask s.par.pmax).length = s.par.pmax := by simp [resetMask]; omega
  exact
    { params := hadm', busy_is_run := statusWord_busy _, irqen_res := BitVec.zero_and, mode_res := BitVec.zero_and
      pmask_res := resetMask_res s.par.pmax, pmask_size := hsize
      msglen_le := Nat.zero_le _, msgbuf_wf := ⟨.nil, nofun⟩, msgbuf_in := nofun
      nsym_le := Nat.zero_le _, symbuf_wf := ⟨.nil, nofun⟩, symbuf_in := nofun
      nsamp_fits := Nat.two_pow_pos _, k_fits := Nat.two_pow_pos _, acc_fits := Nat.two_pow_pos _
      phi_fits := Nat.two_pow_pos _, seg_le := le_rfl, outq_le := Nat.zero_le _
      idle_drained := fun _ => rfl, run_ok := nofun }

theorem streamInv_resetStep (s : State) : StreamInv (resetStep s) := ⟨fun _ => rfl, nofun, nofun⟩

/-- Settles O51: the state after reset is that of a reset step for the default parameters. -/
theorem resetSatisfiesInvariants : Obligations.ResetSatisfiesInvariants := by
  have hreset : State.reset = resetStep State.reset := rfl
  have hadm : State.reset.par.admissible := by decide
  unfold Obligations.ResetSatisfiesInvariants
  rw [hreset]
  exact ⟨inv_resetStep hadm, streamInv_resetStep _⟩

end Sys2Proof.Machine
end

section
/-! The engine's and the sink's turns, and the machine's invariant under every step (R44, R166 to R168, R175). -/

namespace Sys2Proof.Machine

/-! ### The emit step -/

section
variable {s : State} (h : Inv s) (hrun : s.eng = .run) (hemit : s.edone = false)
include h hrun

/-- After a sample, S and PHI are reduced. -/
theorem advance_ranges : (advance s).acc < modulusM s.chirp ∧ (advance s).phi < modulusD s.chirp :=
  ⟨shiftNext_lt (h.run_ok hrun).fs_toNat_pos _, phaseNext_lt (h.run_ok hrun).fs_toNat_pos _ _ _⟩

/-- Inside a segment, K goes up and stays below N. -/
theorem runOk_advance (hk : s.k + 1 ≠ s.nsamp) : RunOk (advance s) := by
  have hok := h.run_ok hrun
  obtain ⟨hacc, hphi⟩ := advance_ranges h hrun
  exact hok.of_operation (by simp [operation]) rfl (Nat.lt_of_le_of_ne hok.k_lt hk) hacc hphi hok.emitting hok.finished

include hemit

theorem seg_succ_toNat : (s.seg + 1).toNat = s.seg.toNat + 1 := by
  have hlt := (h.run_ok hrun).emitting hemit
  have hsize := s.nseg.isLt
  rw [BitVec.toNat_add, Nat.mod_eq_of_lt]
  · rfl
  · exact lt_of_le_of_lt hlt hsize

/-- After the last segment, SEG is NSEG. -/
theorem runOk_setEdone (hseg : s.seg.toNat + 1 = s.nseg.toNat) : RunOk (setEdone (countSegment (advance s))) := by
  have hok := h.run_ok hrun
  obtain ⟨hacc, hphi⟩ := advance_ranges h hrun
  have hlast : s.seg + 1 = s.nseg := BitVec.eq_of_toNat_eq ((seg_succ_toNat h hrun hemit).trans hseg)
  exact hok.of_operation (by simp [operation]) rfl hok.nsamp_pos hacc hphi nofun fun _ => hlast

/-- At any other segment boundary, the next slot's segment starts. -/
theorem runOk_nextSegment (hseg : s.seg.toNat + 1 ≠ s.nseg.toNat) {sym : Half} {dir : Dir}
    (hslot : slotOf s (s.seg.toNat + 1) = some (sym, dir)) :
    RunOk (setSegment sym dir (countSegment (advance s))) := by
  have hok := h.run_ok hrun
  have hnext : s.seg.toNat + 1 < s.nseg.toNat := Nat.lt_of_le_of_ne (hok.emitting hemit) hseg
  have hsym : sym.toNat < 2 ^ s.sf := sym_lt_of_slotGood (hok.slots _ hnext) hslot
  refine hok.of_operation (by simp [operation]) rfl hok.nsamp_pos (shiftStart_lt hok.fs_toNat_pos hsym)
    (modulusD_pos hok.fs_toNat_pos) (fun _ => ?_) fun hdone => ?_
  · rw [setSegment_seg, countSegment_seg, advance_seg, seg_succ_toNat h hrun hemit]
    exact hnext
  · cases hemit.symm.trans hdone

end

/-- The states an emit step can lead to. -/
inductive EmitsTo (s : State) : State → Prop where
  | sample (hk : s.k + 1 ≠ s.nsamp) : EmitsTo s (advance s)
  | last (hk : s.k + 1 = s.nsamp) (hseg : s.seg.toNat + 1 = s.nseg.toNat) :
      EmitsTo s (setEdone (countSegment (advance s)))
  | boundary (hk : s.k + 1 = s.nsamp) (hseg : s.seg.toNat + 1 ≠ s.nseg.toNat) (sym : Half) (dir : Dir)
      (hslot : slotOf s (s.seg.toNat + 1) = some (sym, dir)) : EmitsTo s (setSegment sym dir (countSegment (advance s)))

theorem emit_emitsTo {s t : State} (h : emit s = .next t) : EmitsTo s t := by
  obtain ⟨-, ⟨hk, rfl⟩ | ⟨hk, hseg, rfl⟩ | ⟨hk, hseg, hload⟩⟩ := emit_next h
  · exact .sample hk
  · exact .last hk hseg
  · obtain ⟨sym, dir, hslot, rfl⟩ := loadSeg_next hload
    exact .boundary hk hseg sym dir hslot

theorem EmitsTo.runOk {s t : State} (hto : EmitsTo s t) (h : Inv s) (hrun : s.eng = .run) (hemit : s.edone = false) :
    RunOk t := by
  cases hto with
  | sample hk => exact runOk_advance h hrun hk
  | last hk hseg => exact runOk_setEdone h hrun hemit hseg
  | boundary hk hseg sym dir hslot => exact runOk_nextSegment h hrun hemit hseg hslot

/-- An emit step pushes the current record, and keeps the engine running and everything the invariant asks for. -/
theorem EmitsTo.frame {s t : State} (hto : EmitsTo s t) :
    invInputs t = invInputs s ∧ t.eng = s.eng ∧ t.outq = s.outq ++ [currentSample s] := by
  cases hto <;> simp [invInputs]

theorem EmitsTo.inv {s t : State} (hto : EmitsTo s t) (h : Inv s) (hrun : s.eng = .run) (hemit : s.edone = false)
    (hroom : s.outq.length < s.par.outDepth) : Inv t := by
  obtain ⟨hin, heng, hqueue⟩ := hto.frame
  refine h.of_run hin (heng.trans hrun) (hto.runOk h hrun hemit) ?_
  rw [hqueue, List.length_append]
  exact hroom

/-! ### Completion and the sink -/

theorem Inv.complete {s : State} (h : Inv s) (hempty : s.outq = []) : Inv (complete s) :=
  { h with busy_is_run := statusWord_busy _, idle_drained := fun _ => hempty, run_ok := nofun }

theorem Inv.sinkStep {s : State} (h : Inv s) : Inv (sinkStep s) := by
  obtain ⟨-, ht⟩ | ⟨r, rest, hq, -, ht⟩ | ⟨r, rest, hq, -, ht⟩ := sinkStep_cases s
  · rw [ht]; exact h
  all_goals
    have hle : rest.length ≤ s.par.outDepth := by
      have := h.outq_le
      rw [hq, List.length_cons] at this
      omega
    rw [ht]
    exact
      { h with
        outq_le := hle
        idle_drained := fun hidle => by cases hq.symm.trans (h.idle_drained hidle)
        run_ok := fun hrun => { h.run_ok hrun with } }

/-! ### Every step -/

/-- What one step does: nothing, or one agent's turn with the schedule popped. -/
inductive Turn (s t : State) : Prop where
  | none (ht : t = s)
  | host (h : HostEffect s t)
  | emits (u : State) (hq : Quiet s u) (hrun : u.eng = .run) (hemit : u.edone = false)
      (hroom : u.outq.length < u.par.outDepth) (h : EmitsTo u t)
  | completes (u : State) (hq : Quiet s u) (hrun : u.eng = .run) (hdone : u.edone = true) (hempty : u.outq = [])
      (ht : t = complete u)
  | sink (u : State) (hq : Quiet s u) (ht : t = sinkStep u)
  | reset (ts : List Agent) (hts : s.turns = .reset :: ts) (ht : t = resetStep (popTurn ts s))

theorem step_turn {s t : State} (h : step s = .next t) : Turn s t := by
  obtain ⟨-, hstep⟩ | ⟨a, rest, hts, hstep⟩ := step_cases s
  · rw [h] at hstep; cases hstep; exact .none rfl
  · rw [h] at hstep
    have hq : Quiet s (popTurn rest s) := quiet_popTurn hts
    cases a with
    | host => exact .host (hq.hostEffect (hostStep_effect hstep.symm))
    | engine =>
      obtain ⟨hrun, hemit, hroom, heng⟩ | ⟨hrun, hdone, hempty, heng⟩ | ⟨heng, -⟩ := engineStep_cases (popTurn rest s)
      · exact .emits _ hq hrun hemit hroom (emit_emitsTo (heng ▸ hstep.symm))
      · exact .completes _ hq hrun hdone hempty (Host.Outcome.next.inj (hstep.trans heng))
      · exact .host (.quiet (Host.Outcome.next.inj (hstep.trans heng) ▸ hq))
    | sink => exact .sink _ hq (Host.Outcome.next.inj hstep)
    | reset => exact .reset rest hts (Host.Outcome.next.inj hstep)

/-- Settles O52: each kind of turn keeps the invariant. -/
theorem stepKeepsInvariant : Obligations.StepKeepsInvariant := by
  intro s t h hstep
  cases step_turn hstep with
  | none ht => exact ht ▸ h
  | host heff => exact h.hostEffect heff
  | emits u hq hrun hemit hroom hto => exact hto.inv (h.quiet hq) hrun hemit hroom
  | completes u hq hrun hdone hempty ht => exact ht ▸ (h.quiet hq).complete hempty
  | sink u hq ht => exact ht ▸ (h.quiet hq).sinkStep
  | reset ts hts ht => exact ht ▸ inv_resetStep h.params

end Sys2Proof.Machine
end

section
/-! The stream's relation to the record sequence (R67, R164, R169): the record an emit step pushes is the next one, and the
sink meets LAST at the end of the sequence only. -/

namespace Sys2Proof.Machine

/-! ### The position in the record sequence -/

/-- How many records of its operation a running engine has pushed (R166, R167). -/
def pushed (s : State) : Nat :=
  if s.edone then s.nseg.toNat * s.nsamp else s.seg.toNat * s.nsamp + s.k

theorem pushed_of_edone {s : State} (h : s.edone = true) : pushed s = s.nseg.toNat * s.nsamp := if_pos h

theorem pushed_of_emitting {s : State} (h : s.edone = false) : pushed s = s.seg.toNat * s.nsamp + s.k := by
  simp [pushed, h]

/-- While the engine emits, there is a record left. -/
theorem RunOk.pushed_lt {s : State} (hok : RunOk s) (hemit : s.edone = false) :
    pushed s < s.nseg.toNat * s.nsamp := by
  have hle : (s.seg.toNat + 1) * s.nsamp ≤ s.nseg.toNat * s.nsamp := Nat.mul_le_mul_right _ (hok.emitting hemit)
  have hk := hok.k_lt
  rw [Nat.succ_mul] at hle
  rw [pushed_of_emitting hemit]
  omega

theorem RunOk.pushed_le {s : State} (hok : RunOk s) : pushed s ≤ s.nseg.toNat * s.nsamp := by
  cases hdone : s.edone with
  | false => exact (hok.pushed_lt hdone).le
  | true => rw [pushed_of_edone hdone]

theorem RunOk.take_total {s : State} (hok : RunOk s) :
    (operationRecords s).take (s.nseg.toNat * s.nsamp) = operationRecords s := by
  rw [← hok.operationRecords_length, List.take_length]

/-- R147: LAST stands at the end of the sequence. -/
theorem RunOk.record_last {s : State} (hok : RunOk s) {i : Nat} {r : Sample} (h : (operationRecords s)[i]? = some r) :
    r.last = decide (i + 1 = s.nseg.toNat * s.nsamp) := by
  have hi : i < s.nseg.toNat * s.nsamp := hok.operationRecords_length ▸ (List.getElem?_eq_some_iff.1 h).1
  have hj : i / s.nsamp < s.nseg.toNat := Nat.div_lt_of_lt_mul (Nat.mul_comm _ _ ▸ hi)
  have hk : i % s.nsamp < s.nsamp := Nat.mod_lt _ hok.nsamp_pos
  obtain ⟨sym, dir, hslot, -⟩ := slotOf_of_slotGood (hok.slots _ hj)
  have hplace : i / s.nsamp * s.nsamp + i % s.nsamp = i := Nat.div_add_mod' i s.nsamp
  rw [← hplace, hok.operationRecords_getElem? hj hk, segmentRecords_of_slotOf hslot,
    synthesize_getElem?_of_lt _ _ _ _ _ hk, Option.some.injEq] at h
  rw [← h, sampleOf_last, ← Bool.decide_and, decide_eq_decide, last_segment_and_last_sample_iff hj hk, hplace]

/-! ### What the stream holds -/

section
variable {s : State} (h : StreamInv s) (hrun : s.eng = .run)
include h hrun

/-- While a record stands in OUTQ or the engine emits, sink and OUTQ hold all that was pushed. -/
theorem StreamInv.eq_take (hok : RunOk s) (hopen : s.edone = false ∨ s.outq ≠ []) :
    s.received ++ s.outq = (operationRecords s).take (pushed s) := by
  cases hdone : s.edone with
  | false =>
    obtain ⟨-, -, hrecs⟩ := h.emitting hrun hdone
    rw [pushed_of_emitting hdone, hrecs]
  | true =>
    obtain ⟨-, hrecs⟩ | ⟨hempty, -⟩ := h.emitted hrun hdone
    · rw [pushed_of_edone hdone, hok.take_total, hrecs]
    · exact absurd hempty (hopen.resolve_left (by simp [hdone]))

/-- R164: the record that the engine pushes next is the next one of the sequence. -/
theorem StreamInv.next_record (hok : RunOk s) (hemit : s.edone = false) :
    (operationRecords s)[pushed s]? = some (currentSample s) := by
  obtain ⟨hslot, hchirp, -⟩ := h.emitting hrun hemit
  have hphi : s.phi = (chirpAt s.chirp s.csym.toNat s.cdir s.k).2 := congrArg Prod.snd hchirp
  rw [pushed_of_emitting hemit, hok.operationRecords_getElem? (hok.emitting hemit) hok.k_lt,
    segmentRecords_of_slotOf hslot, synthesize_getElem?_of_lt _ _ _ _ _ hok.k_lt, currentSample, hphi]

theorem StreamInv.take_succ_pushed (hok : RunOk s) (hemit : s.edone = false) :
    s.received ++ (s.outq ++ [currentSample s]) = (operationRecords s).take (pushed s + 1) := by
  rw [List.take_add_one, h.next_record hrun hok hemit, ← h.eq_take hrun hok (.inl hemit), List.append_assoc]
  rfl

/-- The head of OUTQ carries LAST exactly when it completes the sequence, and then nothing stands behind it. -/
theorem StreamInv.head_last (hok : RunOk s) {r : Sample} {rest : List Sample} (hq : s.outq = r :: rest) :
    (r.last = true → s.edone = true ∧ rest = [] ∧ s.received ++ [r] = operationRecords s) ∧
    (r.last = false → s.edone = true → rest ≠ []) := by
  have hall : s.received ++ r :: rest = (operationRecords s).take (pushed s) := by
    rw [← hq, h.eq_take hrun hok (.inr (by simp [hq]))]
  have hlength : s.received.length + 1 + rest.length = pushed s := by
    have hlen := congrArg List.length hall
    rw [List.length_append, List.length_cons, List.length_take, hok.operationRecords_length,
      Nat.min_eq_left hok.pushed_le] at hlen
    omega
  have hhead : (operationRecords s)[s.received.length]? = some r := by
    rw [← List.getElem?_take_of_lt (show s.received.length < pushed s by omega), ← hall]
    simp
  have hle := hok.pushed_le
  rw [hok.record_last hhead, decide_eq_true_iff, decide_eq_false_iff_not]
  refine ⟨fun hend => ?whole, fun hend hdone hrest => ?more⟩
  case whole =>
    have hdone : s.edone = true := by
      by_contra hemit
      have hlt := hok.pushed_lt (Bool.not_eq_true _ ▸ hemit)
      omega
    have hrest : rest = [] := List.eq_nil_of_length_eq_zero (by omega)
    subst hrest
    exact ⟨hdone, rfl, by rw [hall, pushed_of_edone hdone, hok.take_total]⟩
  case more =>
    rw [hrest, pushed_of_edone hdone, List.length_nil] at hlength
    exact hend (by omega)

end

/-! ### The turns -/

theorem StreamInv.quiet {s t : State} (h : StreamInv s) (hq : Quiet s t) : StreamInv t := by
  rw [hq.frame]
  exact { h with }

theorem StreamInv.stores {s t : State} (h : StreamInv s) (hidle : s.eng = .idle) (hst : Stores s t) : StreamInv t := by
  have heng : (takeStores t s).eng = .idle := hidle
  rw [hst.frame]
  exact ⟨fun _ => h.idle hidle, fun hrun => (nomatch heng.symm.trans hrun), fun hrun => (nomatch heng.symm.trans hrun)⟩

theorem Arms.outside {i : Instr} {s u : State} {opk : OpKind} {nseg : BitVec 17} (h : Arms i s opk nseg u) :
    u.outq = s.outq ∧ u.received = s.received ∧ u.packets = s.packets := by
  cases h <;> exact ⟨rfl, rfl, rfl⟩

/-- An accepted operation starts with nothing pushed, at sample 0 of Slot(0) if it has one. -/
theorem streamInv_of_accept {opk : OpKind} {nseg : BitVec 17} {u t : State} (hempty : u.outq = [])
    (hnone : u.received = []) (hacc : accept opk nseg u = .next t) : StreamInv t := by
  obtain ⟨rfl, rfl⟩ | ⟨-, sym, dir, hslot, rfl⟩ := accept_cases hacc
  · exact ⟨fun hidle => (nomatch hidle), fun _ hemit => (nomatch hemit), fun _ _ => .inr ⟨hempty, hnone, .inl rfl⟩⟩
  · refine ⟨fun hidle => (nomatch hidle), fun _ _ => ⟨hslot, rfl, ?_⟩, fun _ hdone => (nomatch hdone)⟩
    have hstart : (setSegment sym dir (armed opk nseg u)).seg.toNat * (setSegment sym dir (armed opk nseg u)).nsamp +
        (setSegment sym dir (armed opk nseg u)).k = 0 := Nat.zero_mul _
    rw [hstart, List.take_zero]
    exact (congrArg₂ (· ++ ·) hnone hempty)

theorem EmitsTo.operation {s t : State} (hto : EmitsTo s t) :
    operation t = operation s ∧ t.par = s.par ∧ t.received = s.received ∧ t.packets = s.packets := by
  cases hto <;> simp [Machine.operation]

theorem EmitsTo.records {s t : State} (hto : EmitsTo s t) : operationRecords t = operationRecords s := by
  obtain ⟨hop, hpar, -, -⟩ := hto.operation
  exact operationRecords_of_operation hop (congrArg Config.Params.outW hpar)

/-- The emit step counts its record. -/
theorem EmitsTo.pushed {s t : State} (hto : EmitsTo s t) (h : Inv s) (hrun : s.eng = .run) (hemit : s.edone = false) :
    pushed t = pushed s + 1 := by
  rw [pushed_of_emitting hemit]
  cases hto with
  | sample hk => exact pushed_of_emitting (s := advance s) hemit
  | last hk hseg =>
    rw [pushed_of_edone rfl, setEdone_nseg, setEdone_nsamp, countSegment_nseg, countSegment_nsamp, advance_nseg,
      advance_nsamp, ← hseg, Nat.succ_mul, Nat.add_assoc, hk]
  | boundary hk hseg sym dir hslot =>
    rw [pushed_of_emitting (by simpa using hemit), setSegment_seg, setSegment_nsamp, setSegment_k, countSegment_seg,
      countSegment_nsamp, advance_seg, advance_nsamp, seg_succ_toNat h hrun hemit, Nat.succ_mul,
      Nat.add_assoc, Nat.add_assoc, hk, Nat.add_zero]

theorem EmitsTo.streamInv {s t : State} (hto : EmitsTo s t) (h : Inv s) (hs : StreamInv s) (hrun : s.eng = .run)
    (hemit : s.edone = false) : StreamInv t := by
  have hok := h.run_ok hrun
  obtain ⟨hslot, hchirp, -⟩ := hs.emitting hrun hemit
  obtain ⟨-, heng, hqueue⟩ := hto.frame
  obtain ⟨hop, -, hreceived, -⟩ := hto.operation
  have hrecs : t.received ++ t.outq = (operationRecords t).take (Machine.pushed t) := by
    rw [hreceived, hqueue, hto.records, hto.pushed h hrun hemit, hs.take_succ_pushed hrun hok hemit]
  have hidle : t.eng = .idle → t.received = [] := fun hidle => nomatch hrun.symm.trans (heng.symm.trans hidle)
  refine ⟨hidle, fun _ hemit' => ⟨?slot, ?chirp, ?_⟩, fun _ hdone => .inl ⟨by simp [hqueue], ?_⟩⟩
  case slot =>
    rw [slotOf_of_operation hop]
    cases hto with
    | sample hk => exact hslot
    | last hk hseg => cases hemit'
    | boundary hk hseg sym dir hslot' =>
      rw [setSegment_seg, countSegment_seg, advance_seg, seg_succ_toNat h hrun hemit]
      exact hslot'
  case chirp =>
    rw [chirp_of_operation hop]
    cases hto with
    | sample hk =>
      obtain ⟨hacc, hphi⟩ := Prod.mk.inj hchirp
      simp only [advance_acc, advance_phi, advance_csym, advance_cdir, advance_k, chirpAt, ← hacc, ← hphi]
    | last hk hseg => cases hemit'
    | boundary hk hseg sym dir hslot' => rfl
  · rw [← pushed_of_emitting hemit', hrecs]
  · rw [hrecs, pushed_of_edone hdone, (hto.runOk h hrun hemit).take_total]

theorem StreamInv.complete {s : State} (hs : StreamInv s) (hrun : s.eng = .run) (hdone : s.edone = true)
    (hempty : s.outq = []) : StreamInv (complete s) := by
  obtain ⟨hne, -⟩ | ⟨-, hreceived, -⟩ := hs.emitted hrun hdone
  · exact absurd hempty hne
  · exact ⟨fun _ => hreceived, fun hrun' => (nomatch hrun'), fun hrun' => (nomatch hrun')⟩

theorem operation_sinkStep (s : State) :
    operation (sinkStep s) = operation s ∧ (sinkStep s).par = s.par ∧ (sinkStep s).eng = s.eng ∧
      (sinkStep s).edone = s.edone ∧ pushed (sinkStep s) = pushed s ∧ (sinkStep s).seg = s.seg := by
  obtain ⟨-, ht⟩ | ⟨r, rest, -, -, ht⟩ | ⟨r, rest, -, -, ht⟩ := sinkStep_cases s <;>
    (rw [ht]; exact ⟨rfl, rfl, rfl, rfl, rfl, rfl⟩)

/-- The sink and OUTQ keep what they hold between them, until LAST makes it a whole packet. -/
theorem StreamInv.sinkStep {s : State} (hs : StreamInv s) (h : Inv s) : StreamInv (sinkStep s) := by
  obtain ⟨-, ht⟩ | ⟨r, rest, hq, hlast, ht⟩ | ⟨r, rest, hq, hlast, ht⟩ := sinkStep_cases s
  · rw [ht]; exact hs
  all_goals
    have hrun : s.eng = .run := by
      cases heng : s.eng with
      | run => rfl
      | idle => cases hq.symm.trans (h.idle_drained heng)
    have hok := h.run_ok hrun
    obtain ⟨hwhole, hmore⟩ := hs.head_last hrun hok hq
    rw [ht]
  · obtain ⟨hdone, rfl, hpacket⟩ := hwhole hlast
    refine ⟨fun _ => rfl, fun _ hemit => (nomatch hdone.symm.trans hemit), fun _ _ => .inr ⟨rfl, rfl, .inr ?_⟩⟩
    rw [List.getLast?_append, List.getLast?_singleton, Option.some_or, hpacket]
    exact congrArg some (operationRecords_of_operation rfl rfl).symm
  · have hmove : s.received ++ [r] ++ rest = s.received ++ s.outq := by rw [hq, List.append_assoc]; rfl
    refine ⟨fun hidle => (nomatch hrun.symm.trans hidle), fun _ hemit => ?_,
      fun _ hdone => .inl ⟨hmore hlast hdone, ?_⟩⟩
    · obtain ⟨hslot, hchirp, hrecs⟩ := hs.emitting hrun hemit
      exact ⟨hslot, hchirp, hmove.trans hrecs⟩
    · obtain ⟨-, hrecs⟩ | ⟨hempty, -⟩ := hs.emitted hrun hdone
      · exact hmove.trans hrecs
      · cases hq.symm.trans hempty

theorem StreamInv.hostEffect {s t : State} (hs : StreamInv s) (h : Inv s) (heff : HostEffect s t) : StreamInv t := by
  cases heff with
  | quiet hq => exact hs.quiet hq
  | stores hidle hst => exact hs.stores hidle hst
  | accepts u w i opk nseg hq hidle hok harms hacc =>
    obtain ⟨hqueue, hreceived, -⟩ := harms.outside
    exact streamInv_of_accept (hqueue.trans ((h.quiet hq).idle_drained hidle))
      (hreceived.trans ((hs.quiet hq).idle hidle)) hacc

/-- Settles O53: each kind of turn keeps the relation. -/
theorem stepKeepsStream : Obligations.StepKeepsStream := by
  intro s t h hs hstep
  cases step_turn hstep with
  | none ht => exact ht ▸ hs
  | host heff => exact hs.hostEffect h heff
  | emits u hq hrun hemit hroom hto => exact hto.streamInv (h.quiet hq) (hs.quiet hq) hrun hemit
  | completes u hq hrun hdone hempty ht => exact ht ▸ (hs.quiet hq).complete hrun hdone hempty
  | sink u hq ht => exact ht ▸ (hs.quiet hq).sinkStep (h.quiet hq)
  | reset ts hts ht => exact ht ▸ streamInv_resetStep _

end Sys2Proof.Machine
end

section
/-! What every step keeps: the parameters (R6), progress (R175), and the inputs of a run (R70). -/

namespace Sys2Proof.Machine

/-! ### The parameters -/

theorem HostEffect.par {s t : State} (h : HostEffect s t) : t.par = s.par := by
  cases h with
  | quiet hq => rw [hq.frame]; rfl
  | stores _ hst => rw [hst.frame]; rfl
  | accepts u w i opk nseg hq _ _ harms hacc =>
    have hu : u.par = s.par := by rw [hq.frame]; rfl
    rw [harms.acceptFrame hacc]
    exact hu

/-- Settles O55: no kind of turn writes the parameters. -/
theorem stepKeepsParameters : Obligations.StepKeepsParameters := by
  intro s t hstep
  have hquiet : ∀ {u : State}, Quiet s u → u.par = s.par := fun hq => by rw [hq.frame]; rfl
  cases step_turn hstep with
  | none ht => rw [ht]
  | host heff => exact heff.par
  | emits u hq _ _ _ hto =>
    obtain ⟨-, hpar, -⟩ := hto.operation
    exact hpar.trans (hquiet hq)
  | completes u hq _ _ _ ht => rw [ht, complete_par, hquiet hq]
  | sink u hq ht =>
    obtain ⟨-, hpar, -⟩ := operation_sinkStep u
    rw [ht, hpar, hquiet hq]
  | reset ts _ ht => rw [ht]; rfl

/-! ### Progress -/

/-- The host's turn has a next state, or its bus operation has a size other than 4 (R61). -/
theorem hostStep_progress (s : State) :
    (∃ t, hostStep s = .next t) ∨ ∃ n, n ≠ 4 ∧ hostStep s = .refused (.busSize n) := by
  cases hp : s.program with
  | nil => exact .inl ⟨s, by simp only [hostStep, hp]⟩
  | cons op rest =>
    cases op with
    | read a n =>
      by_cases hn : n = 4
      · exact .inl ⟨_, by simp only [hostStep, hp, hn, if_true]; rfl⟩
      · exact .inr ⟨n, hn, hostStep_read_refused hn hp⟩
    | write a n v =>
      by_cases hn : n = 4
      · subst hn
        rw [hostStep_write hp]
        exact .inl (memWrite_next_exists _ a v)
      · exact .inr ⟨n, hn, hostStep_write_refused hn hp⟩
    | poll a m v =>
      by_cases hv : memRead s a &&& m = v
      · exact .inl ⟨_, by simp only [hostStep, hp, hv, if_true]; rfl⟩
      · exact .inl ⟨_, by simp only [hostStep, hp, hv, if_false]; rfl⟩

/-- The emit step of a run finds M above 0, and at a segment boundary a slot to load (R175). -/
theorem emit_next_exists {s : State} (h : Inv s) (hrun : s.eng = .run) (hemit : s.edone = false) :
    ∃ t, emit s = .next t := by
  have hok := h.run_ok hrun
  rw [emit, if_neg hok.fs_pos]
  by_cases hk : s.k + 1 = s.nsamp
  · rw [if_pos hk, segmentBoundary, advance_seg, advance_nseg]
    by_cases hseg : s.seg.toNat + 1 = s.nseg.toNat
    · exact ⟨_, if_pos hseg⟩
    · have hnext : s.seg.toNat + 1 < s.nseg.toNat := Nat.lt_of_le_of_ne (hok.emitting hemit) hseg
      obtain ⟨sym, dir, hslot, -⟩ := slotOf_of_slotGood (hok.slots _ hnext)
      rw [if_neg hseg]
      exact ⟨_, loadSeg_some (s := countSegment (advance s)) hslot⟩
  · exact ⟨_, if_neg hk⟩

theorem engineStep_next_exists {s : State} (h : Inv s) : ∃ t, engineStep s = .next t := by
  obtain ⟨hrun, hemit, -, hstep⟩ | ⟨-, -, -, hstep⟩ | ⟨hstep, -⟩ := engineStep_cases s
  · rw [hstep]
    exact emit_next_exists h hrun hemit
  · exact ⟨_, hstep⟩
  · exact ⟨_, hstep⟩

/-- Settles O54: of the four agents only the host can meet a refusal, and none a fault. -/
theorem stepNeverFaults : Obligations.StepNeverFaults := by
  intro s h
  obtain ⟨-, hstep⟩ | ⟨a, rest, hts, hstep⟩ := step_cases s
  · exact .inl ⟨s, hstep⟩
  · rw [hstep]
    cases a with
    | host => exact hostStep_progress (popTurn rest s)
    | engine => exact .inl (engineStep_next_exists (h.quiet (quiet_popTurn hts)))
    | sink => exact .inl ⟨_, rfl⟩
    | reset => exact .inl ⟨_, rfl⟩

/-! ### The inputs of a run -/

/-- What a step of a run leaves alone: the operation, the message, and the segments already done. -/
structure KeepsRun (s t : State) : Prop where
  operation : operation t = operation s
  msglen : t.msglen = s.msglen
  msgbuf : t.msgbuf = s.msgbuf
  seg_le : s.seg.toNat ≤ t.seg.toNat

theorem Quiet.keepsRun {s t : State} (h : Quiet s t) : KeepsRun s t := by
  rw [h.frame]
  exact ⟨rfl, rfl, rfl, le_rfl⟩

theorem KeepsRun.trans {s t u : State} (h1 : KeepsRun s t) (h2 : KeepsRun t u) : KeepsRun s u :=
  ⟨h2.operation.trans h1.operation, h2.msglen.trans h1.msglen, h2.msgbuf.trans h1.msgbuf, h1.seg_le.trans h2.seg_le⟩

theorem EmitsTo.keepsRun {s t : State} (hto : EmitsTo s t) (h : Inv s) (hrun : s.eng = .run) (hemit : s.edone = false) :
    KeepsRun s t := by
  have hseg := seg_succ_toNat h hrun hemit
  obtain ⟨hop, -⟩ := hto.operation
  have hkept : t.msglen = s.msglen ∧ t.msgbuf = s.msgbuf := by cases hto <;> exact ⟨rfl, rfl⟩
  refine ⟨hop, hkept.1, hkept.2, ?_⟩
  cases hto with
  | sample => exact le_rfl
  | last => rw [setEdone_seg, countSegment_seg, advance_seg, hseg]; omega
  | boundary => rw [setSegment_seg, countSegment_seg, advance_seg, hseg]; omega

theorem keepsRun_sinkStep (s : State) : KeepsRun s (sinkStep s) := by
  obtain ⟨-, ht⟩ | ⟨r, rest, -, -, ht⟩ | ⟨r, rest, -, -, ht⟩ := sinkStep_cases s <;>
    (rw [ht]; exact ⟨rfl, rfl, rfl, le_rfl⟩)

/-- During a run, every step but a reset keeps the operation: the host finds the lock, the engine writes none of it. -/
theorem step_keepsRun {s t : State} (h : Inv s) (hrun : s.eng = .run) (hnoreset : ∀ ts, s.turns ≠ .reset :: ts)
    (hstep : step s = .next t) : KeepsRun s t := by
  cases step_turn hstep with
  | none ht => rw [ht]; exact (Quiet.refl s).keepsRun
  | host heff => exact (heff.quiet_of_run hrun).keepsRun
  | emits u hq hrun' hemit _ hto => exact hq.keepsRun.trans (hto.keepsRun (h.quiet hq) hrun' hemit)
  | completes u hq _ _ _ ht => exact hq.keepsRun.trans (ht ▸ ⟨rfl, rfl, rfl, le_rfl⟩)
  | sink u hq ht => exact hq.keepsRun.trans (ht ▸ keepsRun_sinkStep u)
  | reset ts hts _ => exact absurd hts (hnoreset ts)

/-- Settles O56: the operation field by field. -/
theorem runKeepsItsInputs : Obligations.RunKeepsItsInputs := by
  intro s t h hrun hnoreset hstep
  obtain ⟨hop, hmsglen, hmsgbuf, hseg⟩ := step_keepsRun h hrun hnoreset hstep
  simp only [operation, Prod.mk.injEq] at hop
  obtain ⟨⟨hfs, hbw, hf0, hmode⟩, ⟨hplen, hpmask, hnsym, hsymbuf⟩, hnsamp, hopk, hnseg, hasym, hadir⟩ := hop
  exact ⟨hfs, hbw, hf0, hmode, hplen, hpmask, hmsglen, hmsgbuf, hnsamp, hnsym, hsymbuf, hopk, hnseg, hasym, hadir, hseg⟩

end Sys2Proof.Machine
end

section
/-! The records on the stream port (R40, R66, R89, R146), and their distance from the unit circle (R152). -/

namespace Sys2Proof.Machine

/-! ### The words of a record -/

theorem fullScale_eq (w : Nat) : (Config.fullScale w : Int) = 2 ^ (w - 1) - 1 := by
  rw [Config.fullScale, Nat.cast_sub (Nat.one_le_two_pow), Nat.cast_pow]
  rfl

/-- R146: a value of [-A, A] is read back from its word of OUT_W bits. -/
theorem toInt_ofInt_of_range {w : Nat} (hw : 2 ≤ w) {x : Int}
    (h : -(Config.fullScale w : Int) ≤ x ∧ x ≤ Config.fullScale w) : (BitVec.ofInt w x).toInt = x := by
  rw [fullScale_eq] at h
  exact BitVec.toInt_ofInt_eq_self (by omega) (by omega) (by omega)

/-- A record in OUTQ is one of the running operation's. -/
theorem StreamInv.mem_operationRecords {s : State} {r : Sample} {rest : List Sample} (hs : StreamInv s) (h : Inv s)
    (hq : s.outq = r :: rest) : s.eng = .run ∧ r ∈ operationRecords s := by
  have hrun : s.eng = .run := by
    cases heng : s.eng with
    | run => rfl
    | idle => cases hq.symm.trans (h.idle_drained heng)
  have hmem : r ∈ s.received ++ s.outq := by simp [hq]
  rw [hs.eq_take hrun (h.run_ok hrun) (.inr (by simp [hq]))] at hmem
  exact ⟨hrun, List.mem_of_mem_take hmem⟩

theorem streamValid_iff (s : State) : s.streamValid = true ↔ s.outq ≠ [] := by
  simp [State.streamValid]

theorem streamPort_eq_none_iff (s : State) : s.streamPort = none ↔ s.outq = [] := by
  simp [State.streamPort]

/-- Settles O44: a record of the operation has its phase below D, which fits PHW bits, and I and Q in [-A, A]. -/
theorem amplitudesFitTheirWords : Obligations.AmplitudesFitTheirWords := by
  refine ⟨fun s => ⟨streamValid_iff s, streamPort_eq_none_iff s⟩, fun s r rest h hs hq => ?port,
    fun w c phi first last hw => ?words⟩
  case port =>
    obtain ⟨hrun, hmem⟩ := hs.mem_operationRecords h hq
    have hok := h.run_ok hrun
    obtain ⟨-, -, -, -, -, -, houtW, -⟩ := h.params
    refine ⟨hmem, _, _, _, _, _, streamPort_cons hq, ?_⟩
    obtain ⟨j, k, sym, dir, first, last, -, -, -, rfl⟩ := mem_operationRecords hmem
    refine ⟨?_, toInt_ofInt_of_range houtW (ampI_range _ _ _), toInt_ofInt_of_range houtW (ampQ_range _ _ _), rfl, rfl⟩
    rw [BitVec.toNat_ofNat, Nat.mod_eq_of_lt]
    exact (chirpAt_phase_lt _ _ _ _ hok.fs_toNat_pos).trans (modulusD_lt hok.sf_high)
  case words =>
    obtain ⟨hilow, hihigh⟩ := ampI_range w phi (modulusD c)
    obtain ⟨hqlow, hqhigh⟩ := ampQ_range w phi (modulusD c)
    rw [← fullScale_eq]
    exact ⟨toInt_ofInt_of_range hw (ampI_range _ _ _), toInt_ofInt_of_range hw (ampQ_range _ _ _), hilow, hihigh, hqlow,
      hqhigh⟩

/-! ### The magnitude -/

/-- A number near another one of [-1, 1] has a square near its square. -/
theorem abs_sq_sub_sq_le {x c eps : ℝ} (h : |x - c| ≤ eps) (hc : |c| ≤ 1) : |x ^ 2 - c ^ 2| ≤ eps * (2 + eps) := by
  have hsum : |x + c| ≤ 2 + eps := by
    calc |x + c| = |(x - c) + 2 * c| := by ring_nf
      _ ≤ |x - c| + |2 * c| := abs_add_le _ _
      _ = |x - c| + 2 * |c| := by rw [abs_mul, abs_two]
      _ ≤ 2 + eps := by linarith
  calc |x ^ 2 - c ^ 2| = |x - c| * |x + c| := by rw [← abs_mul]; ring_nf
    _ ≤ eps * (2 + eps) := mul_le_mul h hsum (abs_nonneg _) ((abs_nonneg _).trans h)

/-- R152: two coordinates near cos and sin of one angle have a magnitude near 1. -/
theorem magnitude_near_one {x y a eps : ℝ} (hx : |x - Real.cos a| ≤ eps) (hy : |y - Real.sin a| ≤ eps) :
    |x ^ 2 + y ^ 2 - 1| ≤ 4 * eps + 2 * eps ^ 2 := by
  have hcos := abs_sq_sub_sq_le hx (Real.abs_cos_le_one a)
  have hsin := abs_sq_sub_sq_le hy (Real.abs_sin_le_one a)
  calc |x ^ 2 + y ^ 2 - 1| = |(x ^ 2 - Real.cos a ^ 2) + (y ^ 2 - Real.sin a ^ 2)| := by
        rw [← Real.cos_sq_add_sin_sq a]; ring_nf
    _ ≤ |x ^ 2 - Real.cos a ^ 2| + |y ^ 2 - Real.sin a ^ 2| := abs_add_le _ _
    _ ≤ 4 * eps + 2 * eps ^ 2 := by linarith

/-- R166: the emit step is the engine's turn of a run with a record left and room in OUTQ. -/
theorem engineStep_of_room {s : State} (hrun : s.eng = .run) (hemit : s.edone = false)
    (hroom : s.outq.length < s.par.outDepth) : engineStep s = emit s := by
  obtain ⟨-, -, -, hstep⟩ | ⟨-, hdone, -⟩ | ⟨-, hidle | ⟨-, hfull⟩ | ⟨hdone, -⟩⟩ := engineStep_cases s
  · exact hstep
  · cases hemit.symm.trans hdone
  · cases hrun.symm.trans hidle
  · exact absurd hroom (Nat.not_lt.2 hfull)
  · cases hemit.symm.trans hdone

/-- The record that an emit step pushes, for a running engine with room in OUTQ. -/
theorem step_engine_emitsTo {s : State} {ts : List Agent} (h : Inv s) (hts : s.turns = .engine :: ts) (hrun : s.eng = .run)
    (hemit : s.edone = false) (hroom : s.outq.length < s.par.outDepth) :
    ∃ t, step s = .next t ∧ EmitsTo (popTurn ts s) t := by
  obtain ⟨t, ht⟩ := emit_next_exists (h.quiet (quiet_popTurn hts)) hrun hemit
  refine ⟨t, ?_, emit_emitsTo ht⟩
  rw [step_of_turns_cons hts, ← ht]
  exact engineStep_of_room (s := popTurn ts s) hrun hemit hroom

/-- Settles O45: every record is a phase below D with the amplitudes at its angle. -/
theorem sampleMagnitudeNearOne : Obligations.SampleMagnitudeNearOne := by
  intro s eps h hrun hacc a d good
  have hok := h.run_ok hrun
  have hgood : ∀ phi first last, phi < d → good (sampleOf s.par.outW s.chirp phi first last) := by
    intro phi first last hphi
    obtain ⟨hcos, hsin⟩ := hacc phi d hphi
    exact ⟨hphi, hcos, hsin, magnitude_near_one hcos hsin⟩
  refine ⟨fun r hr => ?records, fun ts hts hemit hroom => ?pushed⟩
  case records =>
    obtain ⟨j, k, sym, dir, first, last, -, -, -, rfl⟩ := mem_operationRecords hr
    exact hgood _ _ _ (chirpAt_phase_lt _ _ _ _ hok.fs_toNat_pos)
  case pushed =>
    obtain ⟨t, hstep, hto⟩ := step_engine_emitsTo h hts hrun hemit hroom
    obtain ⟨-, -, hqueue⟩ := hto.frame
    exact ⟨t, _, hstep, hqueue, hgood _ _ _ hok.phi_lt⟩

end Sys2Proof.Machine
end

section
/-! The turns of the host, the sink and the engine as whole next states (R65, R66, R94, R166, R167), and the register
map (R63). -/

namespace Sys2Proof.Machine

/-! ### The host and the sink -/

/-- A read of the port looks at no schedule and no program. -/
theorem memRead_popTurn (s : State) (ts : List Agent) (a : Word) : memRead (popTurn ts s) a = memRead s a := by
  cases hr : regAt s.par a with
  | none => rw [memRead_of_regAt_none hr, memRead_of_regAt_none (s := popTurn ts s) hr]
  | some r =>
    rw [memRead_of_regAt hr, memRead_of_regAt (s := popTurn ts s) hr]
    cases r <;> rfl

theorem hostStep_read {s : State} {a : Word} {ps : List HostOp} (hp : s.program = .read a 4 :: ps) :
    hostStep s = .next (noteRead (memRead s a) (popOp ps s)) := by
  simp [hostStep, hp]

theorem hostStep_poll_found {s : State} {a m v : Word} {ps : List HostOp} (hp : s.program = .poll a m v :: ps)
    (hv : memRead s a &&& m = v) : hostStep s = .next (noteRead (memRead s a) (popOp ps s)) := by
  simp [hostStep, hp, hv]

theorem hostStep_poll_waits {s : State} {a m v : Word} {ps : List HostOp} (hp : s.program = .poll a m v :: ps)
    (hv : memRead s a &&& m ≠ v) : hostStep s = .next (noteRead (memRead s a) s) := by
  simp [hostStep, hp, hv]

/-- Settles O25: each kind of bus operation at the head of the program. -/
theorem hostTurnIsOneBusAccess : Obligations.HostTurnIsOneBusAccess := by
  intro s a ts ps hts
  have hstep : step s = hostStep (popTurn ts s) := step_of_turns_cons hts
  rw [hstep, ← memRead_popTurn s ts a]
  exact ⟨fun hp => hostStep_read (s := popTurn ts s) hp, fun v hp => hostStep_write (s := popTurn ts s) hp,
    fun m v hp => hostStep_poll_found (s := popTurn ts s) hp, fun m v hp => hostStep_poll_waits (s := popTurn ts s) hp⟩

theorem sinkStep_nil {s : State} (hq : s.outq = []) : sinkStep s = s := by
  simp [sinkStep, hq]

theorem sinkStep_cons {s : State} {r : Sample} {rest : List Sample} (hq : s.outq = r :: rest) :
    sinkStep s = deliver r { s with outq := rest } := by
  simp [sinkStep, hq]

/-- Settles O49: the sink's turn by the head of OUTQ and its LAST, and what a reset turn keeps. -/
theorem sinkTakesTheHead : Obligations.SinkTakesTheHead := by
  refine ⟨fun s ts hts => ?_,
    fun s ts hts => ⟨resetStep (popTurn ts s), step_of_turns_cons hts, rfl, rfl, rfl, rfl, rfl⟩⟩
  have hstep : step s = .next (sinkStep (popTurn ts s)) := step_of_turns_cons hts
  rw [hstep]
  refine ⟨fun hq => ?empty, fun r q hq hlast => ?inside, fun r q hq hlast => ?whole⟩
  case empty => rw [sinkStep_nil (s := popTurn ts s) hq]; rfl
  case inside => rw [sinkStep_cons (s := popTurn ts s) hq, deliver, if_neg (by simp [hlast])]; rfl
  case whole => rw [sinkStep_cons (s := popTurn ts s) hq, deliver, if_pos hlast]; rfl

/-! ### The emit step -/

theorem engineStep_pushes_nothing {s : State} (h : s.eng = .idle ∨ s.edone = true) :
    ∃ t, engineStep s = .next t ∧ t.outq = s.outq := by
  obtain ⟨hrun, hemit, -⟩ | ⟨-, -, -, hstep⟩ | ⟨hstep, -⟩ := engineStep_cases s
  · simp [hrun, hemit] at h
  · exact ⟨_, hstep, rfl⟩
  · exact ⟨_, hstep, rfl⟩

/-- R167: LAST needs the last sample and the last segment. -/
theorem currentSample_eq (s : State) :
    currentSample s = sampleOf s.par.outW s.chirp s.phi (decide (s.k = 0))
      (decide (s.k + 1 = s.nsamp ∧ s.seg.toNat + 1 = s.nseg.toNat)) := by
  rw [currentSample, ← Bool.decide_and, decide_eq_decide.2 and_comm]

section
variable {s : State} (hfs : s.fs ≠ 0)
include hfs

theorem emit_sample (hk : s.k + 1 ≠ s.nsamp) : emit s = .next (advance s) := by
  rw [emit, if_neg hfs, if_neg hk]

theorem emit_last (hk : s.k + 1 = s.nsamp) (hseg : s.seg.toNat + 1 = s.nseg.toNat) :
    emit s = .next (setEdone (countSegment (advance s))) := by
  rw [emit, if_neg hfs, if_pos hk, segmentBoundary, advance_seg, advance_nseg, if_pos hseg]

theorem emit_boundary (hk : s.k + 1 = s.nsamp) (hseg : s.seg.toNat + 1 ≠ s.nseg.toNat) {sym : Half} {dir : Dir}
    (hslot : slotOf s (s.seg.toNat + 1) = some (sym, dir)) :
    emit s = .next (setSegment sym dir (countSegment (advance s))) := by
  rw [emit, if_neg hfs, if_pos hk, segmentBoundary, advance_seg, advance_nseg, if_neg hseg]
  exact loadSeg_some (s := countSegment (advance s)) hslot

end

/-- Settles O47: the emit step's three cases, and the cases in which the engine pushes nothing. -/
theorem engineEmits : Obligations.EngineEmits := by
  refine ⟨fun s ts hts => ⟨fun hrun hemit hfull => ?holds, fun h => ?nothing⟩, ?emits⟩
  case holds =>
    exact (step_of_turns_cons hts).trans (engineStep_of_holding (s := popTurn ts s) (.inr (.inl ⟨hrun, hemit, hfull⟩)))
  case nothing =>
    rw [step_of_turns_cons hts]
    exact engineStep_pushes_nothing (s := popTurn ts s) h
  case emits =>
    intro s ts hts hrun hemit hroom hfs m d fm r
    have hstep : step s = emit (popTurn ts s) :=
      (step_of_turns_cons hts).trans (engineStep_of_room (s := popTurn ts s) hrun hemit hroom)
    have hrecord : currentSample (popTurn ts s) = r := currentSample_eq (popTurn ts s)
    have hadvance : advance (popTurn ts s) =
        { s with
          turns := ts, outq := s.outq ++ [r], phi := (s.phi + fm) % d, acc := (s.acc + s.bw.toNat) % m
          k := s.k + 1 } := by
      rw [advance, hrecord]
      cases hdir : s.cdir <;> simp only [popTurn, hdir, fm] <;> rfl
    rw [hstep]
    refine ⟨fun hk => ?sample, fun hk hseg => ?last, fun hk hseg sym dir hslot => ?boundary⟩
    case sample => rw [emit_sample (s := popTurn ts s) hfs hk, hadvance]
    case last =>
      rw [emit_last (s := popTurn ts s) hfs hk hseg, hadvance]
      rfl
    case boundary =>
      rw [emit_boundary (s := popTurn ts s) hfs hk hseg hslot, hadvance]
      rfl

/-! ### The register map -/

/-- R63 the other way round: the register found at a word index stands at that index. -/
theorem regOffset_of_regOfIndex {pmax j : Nat} {r : Reg} (h : regOfIndex pmax j = some r) :
    regOffset r = 4 * j ∧ ∀ i, r = .pmask i → i < pmax := by
  unfold regOfIndex at h
  split at h
  case h_23 =>
    split at h
    next hj =>
      obtain rfl := Option.some.inj h
      refine ⟨by rw [regOffset]; omega, fun i hi => ?_⟩
      obtain rfl := Reg.pmask.inj hi
      omega
    next => cases h
  all_goals
    obtain rfl := Option.some.inj h
    exact ⟨rfl, nofun⟩

theorem regAt_eq_none {p : Config.Params} {o : Nat} (ho : o < 512) (h4 : o % 4 = 0)
    (h : ∀ r : Reg, (∀ i, r = .pmask i → i < p.pmax) → regOffset r ≠ o) : regAt p (BitVec.ofNat 32 o) = none := by
  have hindex : wordIndex (BitVec.ofNat 32 o) = o / 4 := by
    rw [wordIndex_eq_div_mod, BitVec.toNat_ofNat]
    omega
  rw [regAt, hindex]
  cases hr : regOfIndex p.pmax (o / 4) with
  | none => rfl
  | some r =>
    obtain ⟨hoffset, hmask⟩ := regOffset_of_regOfIndex hr
    exact absurd (by omega) (h r hmask)

theorem regAt_regOffset {p : Config.Params} (hpmax : p.pmax ≤ 64) {r : Reg} (h : ∀ i, r = .pmask i → i < p.pmax) :
    regAt p (BitVec.ofNat 32 (regOffset r)) = some r := by
  cases r with
  | pmask i => exact regAt_regOffset_pmask hpmax (h i rfl)
  | _ => exact regAt_regOffset_of_ne_pmask p nofun

/-- R102: a read at a register's own offset is the register's value. -/
theorem memRead_regOffset (s : State) {r : Reg} (hr : ∀ i, r ≠ .pmask i) :
    memRead s (BitVec.ofNat 32 (regOffset r)) = readReg s r :=
  memRead_of_regAt (regAt_regOffset_of_ne_pmask s.par hr)

/-- Settles O27: the map in both directions, and each register read at its offset. -/
theorem registerMap : Obligations.RegisterMap := by
  refine ⟨fun p hadm => ?map, fun s => ?reads⟩
  case map =>
    obtain ⟨-, -, -, hpmax, -⟩ := hadm
    exact ⟨fun r => regAt_regOffset hpmax, fun o => regAt_eq_none⟩
  case reads =>
    have hstatus : memRead s 0x004 = statusWord s := memRead_regOffset s (r := .status) nofun
    refine ⟨memRead_regOffset s (r := .id) nofun, ?flags, memRead_regOffset s (r := .irqen) nofun,
      memRead_regOffset s (r := .fs) nofun, memRead_regOffset s (r := .bw) nofun, memRead_regOffset s (r := .f0) nofun,
      memRead_regOffset s (r := .mode) nofun, memRead_regOffset s (r := .plen) nofun,
      memRead_regOffset s (r := .msglen) nofun, memRead_regOffset s (r := .nsym) nofun,
      memRead_regOffset s (r := .result) nofun, memRead_regOffset s (r := .errcode) nofun,
      memRead_regOffset s (r := .erridx) nofun, memRead_regOffset s (r := .errval) nofun,
      memRead_regOffset s (r := .segcnt) nofun, memRead_regOffset s (r := .posseg) nofun,
      memRead_regOffset s (r := .symidx) nofun, fun hadm i d hi hd => ?mask⟩
    case flags =>
      rw [hstatus]
      refine ⟨statusWord_busy s, ?_, ?_, ?_, ?_, ?_, fun b => statusWord_getLsbD_res s⟩ <;>
        (rw [statusWord_getLsbD]; rfl)
    case mask =>
      obtain ⟨-, -, -, hpmax, -⟩ := hadm
      refine (memRead_of_regAt (regAt_regOffset_pmask hpmax hi)).trans ?_
      rw [readReg, State.slotWord, List.getD_eq_getElem?_getD, hd, Option.getD_some]

end Sys2Proof.Machine
end

section
/-! Runs of several steps: what every run keeps, and what an accepted operation starts from. -/

namespace Sys2Proof.Machine

/-! ### Steps of a run -/

theorem run_succ_of_step {s t : State} (h : step s = .next t) (n : Nat) :
    Sys2Proof.core.run (n + 1) s = Sys2Proof.core.run n t := by
  have hcore : Sys2Proof.core.step s = .next t := h
  simp only [Host.Core.run, hcore]

theorem step_of_run_succ {n : Nat} {s t : State} (h : Sys2Proof.core.run (n + 1) s = .next t) :
    ∃ u, step s = .next u ∧ Sys2Proof.core.run n u = .next t := by
  cases hstep : step s with
  | next u => exact ⟨u, rfl, run_succ_of_step hstep n ▸ h⟩
  | fault r =>
    have hcore : Sys2Proof.core.step s = .fault r := hstep
    simp only [Host.Core.run, hcore] at h
    cases h
  | refused r =>
    have hcore : Sys2Proof.core.step s = .refused r := hstep
    simp only [Host.Core.run, hcore] at h
    cases h

/-- A property that every step keeps holds at the end of every run. -/
theorem run_induction {P : State → Prop} (hkeep : ∀ s t, P s → step s = .next t → P t) {n : Nat} {s t : State}
    (hs : P s) (h : Sys2Proof.core.run n s = .next t) : P t := by
  induction n generalizing s with
  | zero => cases h; exact hs
  | succ n ih =>
    obtain ⟨u, hstep, hrun⟩ := step_of_run_succ h
    exact ih (hkeep s u hs hstep) hrun

/-! ### The schedule and the packets along a step -/

theorem HostEffect.turns {s t : State} (h : HostEffect s t) : t.turns <:+ s.turns := by
  cases h with
  | quiet hq => exact hq.turns
  | stores _ hst => exact hst.turns
  | accepts u w i opk nseg hq _ _ harms hacc =>
    have hframe : t.turns = u.turns := by rw [harms.acceptFrame hacc]
    exact hframe ▸ hq.turns

theorem Quiet.outside {s t : State} (h : Quiet s t) :
    t.outq = s.outq ∧ t.received = s.received ∧ t.packets = s.packets := by
  rw [h.frame]
  exact ⟨rfl, rfl, rfl⟩

theorem HostEffect.packets {s t : State} (h : HostEffect s t) : t.packets = s.packets := by
  cases h with
  | quiet hq =>
    obtain ⟨-, -, hpackets⟩ := hq.outside
    exact hpackets
  | stores _ hst => rw [hst.frame]; rfl
  | accepts u w i opk nseg hq _ _ harms hacc =>
    obtain ⟨-, -, hpackets⟩ := hq.outside
    rw [harms.acceptFrame hacc]
    exact hpackets

theorem EmitsTo.turns {s t : State} (hto : EmitsTo s t) : t.turns = s.turns := by
  cases hto <;> rfl

theorem sinkStep_turns (s : State) : (sinkStep s).turns = s.turns := by
  obtain ⟨-, ht⟩ | ⟨r, rest, -, -, ht⟩ | ⟨r, rest, -, -, ht⟩ := sinkStep_cases s <;> rw [ht]

theorem sinkStep_packets (s : State) : s.packets <+: (sinkStep s).packets := by
  obtain ⟨-, ht⟩ | ⟨r, rest, -, -, ht⟩ | ⟨r, rest, -, -, ht⟩ := sinkStep_cases s
  · rw [ht]
  · rw [ht]; exact List.prefix_append _ _
  · rw [ht]

/-- A step takes turns off the schedule and puts none on it. -/
theorem step_turns {s t : State} (h : step s = .next t) : t.turns <:+ s.turns := by
  cases step_turn h with
  | none ht => exact ht ▸ List.suffix_rfl
  | host heff => exact heff.turns
  | emits u hq _ _ _ hto => exact hto.turns ▸ hq.turns
  | completes u hq _ _ _ ht => exact ht ▸ hq.turns
  | sink u hq ht => rw [ht, sinkStep_turns]; exact hq.turns
  | reset ts hts ht => rw [ht, hts]; exact List.suffix_cons _ ts

/-- The sink's whole packets stay, a reset included. -/
theorem step_packets {s t : State} (h : step s = .next t) : s.packets <+: t.packets := by
  have hquiet : ∀ {u : State}, Quiet s u → u.packets = s.packets := fun hq => by rw [hq.frame]; rfl
  cases step_turn h with
  | none ht => rw [ht]
  | host heff => rw [heff.packets]
  | emits u hq _ _ _ hto =>
    obtain ⟨-, -, -, hpackets⟩ := hto.operation
    rw [hpackets, hquiet hq]
  | completes u hq _ _ _ ht => rw [ht, complete_packets, hquiet hq]
  | sink u hq ht => rw [ht, ← hquiet hq]; exact sinkStep_packets u
  | reset ts hts ht => rw [ht]; exact List.prefix_rfl

/-! ### An accepted operation -/

/-- What an accepted operation starts from: both invariants, nothing pushed, and an open end unless it has no segment. -/
structure Accepted (s : State) : Prop where
  inv : Inv s
  stream : StreamInv s
  run : s.eng = .run
  outq : s.outq = []
  edone : s.edone = true ↔ s.nseg = 0
  pushed : pushed s = 0

theorem accepted_of_accept {opk : OpKind} {nseg : BitVec 17} {u t : State} (hacc : accept opk nseg u = .next t)
    (hinv : Inv t) (hstream : StreamInv t) (hempty : u.outq = []) : Accepted t := by
  obtain ⟨rfl, rfl⟩ | ⟨hnseg, sym, dir, hslot, rfl⟩ := accept_cases hacc
  · exact ⟨hinv, hstream, rfl, hempty, ⟨fun _ => rfl, fun _ => rfl⟩, Nat.zero_mul _⟩
  · exact ⟨hinv, hstream, rfl, hempty, ⟨nofun, fun h0 => absurd h0 hnseg⟩, Nat.zero_mul _⟩

/-- A command that starts the engine has been accepted. -/
theorem accepted_of_exec {i : Instr} {s t : State} (h : Inv s) (hs : StreamInv s) (hidle : s.eng = .idle)
    (hexec : exec i s = .next t) (hrun : t.eng = .run) : Accepted t := by
  have heff : HostEffect s t := exec_effect hexec
  have hinv : Inv t := h.hostEffect heff
  have hstream : StreamInv t := hs.hostEffect h heff
  cases heff with
  | quiet hq => cases hrun.symm.trans (hq.eng.trans hidle)
  | stores _ hst =>
    have heng : t.eng = s.eng := by rw [hst.frame]; rfl
    cases hrun.symm.trans (heng.trans hidle)
  | accepts u w j opk nseg hq hidle' hok harms hacc =>
    obtain ⟨hqueue, -, -⟩ := harms.outside
    exact accepted_of_accept hacc hinv hstream (hqueue.trans ((h.quiet hq).idle_drained hidle'))

/-- Neither invariant reads the schedule or the program, and of OUT_DEPTH they ask that it is admissible and has room. -/
theorem Accepted.rescheduled {s : State} (h : Accepted s) (ts : List Agent) (ps : List HostOp) {depth : Nat}
    (hdepth : 1 ≤ depth) :
    Accepted { s with turns := ts, program := ps, par := { s.par with outDepth := depth } } := by
  obtain ⟨hsf1, hsf2, hp1, hp2, hm1, hm2, hw1, hw2, -⟩ := h.inv.params
  have hok : RunOk { s with turns := ts, program := ps, par := { s.par with outDepth := depth } } :=
    { h.inv.run_ok h.run with }
  exact
    { inv :=
        { h.inv with
          params := ⟨hsf1, hsf2, hp1, hp2, hm1, hm2, hw1, hw2, hdepth⟩
          busy_is_run := statusWord_busy _
          outq_le := by rw [h.outq]; exact Nat.zero_le _
          run_ok := fun _ => hok }
      stream := { h.stream with }
      run := h.run, outq := h.outq, edone := h.edone, pushed := h.pushed }

end Sys2Proof.Machine
end

section
/-! Delivery (R171, R172, R175): whatever the schedule, the sink's first new packet is the operation's record sequence. -/

namespace Sys2Proof.Machine

/-- The operation's packet is not whole yet: the engine runs it, and there is still a record to push or to take. -/
structure Undelivered (recs : List Sample) (before : List (List Sample)) (t : State) : Prop where
  run : t.eng = .run
  records : operationRecords t = recs
  packets : t.packets = before
  remaining : t.edone = true → t.outq ≠ []

/-- The first packet after `before` is the operation's. -/
def Delivered (recs : List Sample) (before : List (List Sample)) (t : State) : Prop :=
  (before ++ [recs]) <+: t.packets

section
variable {recs : List Sample} {before : List (List Sample)} {s t : State}

theorem Undelivered.quiet (h : Undelivered recs before s) (hq : Quiet s t) : Undelivered recs before t := by
  obtain ⟨hrun, hrecs, hpackets, hremaining⟩ := h
  rw [hq.frame]
  exact ⟨hrun, hrecs, hpackets, hremaining⟩

theorem Undelivered.emits (h : Undelivered recs before s) (hto : EmitsTo s t) : Undelivered recs before t := by
  obtain ⟨-, heng, hqueue⟩ := hto.frame
  obtain ⟨-, -, -, hpackets⟩ := hto.operation
  exact ⟨heng.trans h.run, hto.records.trans h.records, hpackets.trans h.packets, fun _ => by simp [hqueue]⟩

/-- The sink's turn takes a record before the last, or the last one, which makes the packet whole. -/
theorem Undelivered.sinkStep (h : Undelivered recs before s) (hinv : Inv s) (hs : StreamInv s) :
    Undelivered recs before (sinkStep s) ∨ Delivered recs before (sinkStep s) := by
  obtain ⟨hop, hpar, heng, -⟩ := operation_sinkStep s
  have hrecs : operationRecords (Machine.sinkStep s) = recs :=
    (operationRecords_of_operation hop (congrArg Config.Params.outW hpar)).trans h.records
  obtain ⟨-, ht⟩ | ⟨r, rest, hq, hlast, ht⟩ | ⟨r, rest, hq, hlast, ht⟩ := sinkStep_cases s
  · rw [ht]; exact .inl h
  · obtain ⟨-, -, hwhole⟩ := (hs.head_last h.run (hinv.run_ok h.run) hq).1 hlast
    right
    rw [Delivered, ht, ← h.packets, ← h.records, hwhole]
  · have hmore := (hs.head_last h.run (hinv.run_ok h.run) hq).2 hlast
    refine .inl ⟨heng.trans h.run, hrecs, ?_, ?_⟩
    · rw [ht]; exact h.packets
    · rw [ht]; exact hmore

theorem Undelivered.step (h : Undelivered recs before s) (hinv : Inv s) (hs : StreamInv s)
    (hnoreset : Agent.reset ∉ s.turns) (hstep : step s = .next t) :
    Undelivered recs before t ∨ Delivered recs before t := by
  cases step_turn hstep with
  | none ht => exact .inl (ht ▸ h)
  | host heff => exact .inl (h.quiet (heff.quiet_of_run h.run))
  | emits u hq _ _ _ hto => exact .inl ((h.quiet hq).emits hto)
  | completes u hq _ hdone hempty _ => exact absurd hempty ((h.quiet hq).remaining hdone)
  | sink u hq ht => exact ht ▸ (h.quiet hq).sinkStep (hinv.quiet hq) (hs.quiet hq)
  | reset ts hts _ => exact absurd (hts ▸ List.mem_cons_self) hnoreset

end

/-- What holds all along a run without a reset that starts at an acceptance. -/
structure Delivery (recs : List Sample) (before : List (List Sample)) (t : State) : Prop where
  inv : Inv t
  stream : StreamInv t
  noreset : Agent.reset ∉ t.turns
  progress : Undelivered recs before t ∨ Delivered recs before t

theorem Delivery.step {recs : List Sample} {before : List (List Sample)} (s t : State) (h : Delivery recs before s)
    (hstep : step s = .next t) : Delivery recs before t := by
  refine ⟨stepKeepsInvariant s t h.inv hstep, stepKeepsStream s t h.inv h.stream hstep,
    fun hmem => h.noreset ((step_turns hstep).mem hmem), ?_⟩
  obtain hun | hdel := h.progress
  · exact hun.step h.inv h.stream h.noreset hstep
  · exact .inr (hdel.trans (step_packets hstep))

/-- Settles O59: the acceptance is undelivered, and every step keeps the delivery's invariant. -/
theorem deliveryIndependentOfSchedule : Obligations.DeliveryIndependentOfSchedule := by
  intro s s1 i h hs hidle hexec hrun hnseg turns program depth n t hnoreset hdepth hsteps
  have hacc := (accepted_of_exec h hs hidle hexec hrun).rescheduled turns program hdepth
  have hstart : Delivery (operationRecords s1) s1.packets
      { s1 with turns := turns, program := program, par := { s1.par with outDepth := depth } } :=
    ⟨hacc.inv, hacc.stream, hnoreset,
      .inl ⟨hacc.run, operationRecords_of_operation rfl rfl, rfl, fun hdone => absurd (hacc.edone.1 hdone) hnseg⟩⟩
  have hend := run_induction Delivery.step hstart hsteps
  obtain hun | ⟨later, hdel⟩ := hend.progress
  · refine .inr ⟨hun.packets, ?_⟩
    have hopen : t.edone = false ∨ t.outq ≠ [] := by
      cases hdone : t.edone with
      | false => exact .inl rfl
      | true => exact .inr (hun.remaining hdone)
    rw [hend.stream.eq_take hun.run (hend.inv.run_ok hun.run) hopen, hun.records]
    exact List.take_prefix _ _
  · exact .inl ⟨later, hdel.symm⟩

end Sys2Proof.Machine
end

section
/-! Completion under the fair schedule (R168, R212): engine and sink in turn, one record each, then the completion step. -/

namespace Sys2Proof.Machine

/-- A running operation between two rounds of the fair schedule: OUTQ is empty and `m` records are left. -/
structure Round (m : Nat) (s : State) : Prop where
  inv : Inv s
  stream : StreamInv s
  run : s.eng = .run
  outq : s.outq = []
  left : pushed s + m = s.nseg.toNat * s.nsamp

/-- The packet a round adds: the operation's, when it is the last round. -/
def newPackets (m : Nat) (recs : List Sample) : List (List Sample) := if m = 0 then [] else [recs]

/-- The end of the fair schedule, for an operation with `m` records left at `s`. -/
structure Completed (m : Nat) (rest : List Agent) (s t : State) : Prop where
  eng : t.eng = .idle
  done : t.done = true
  outq : t.outq = []
  received : t.received = []
  turns : t.turns = rest
  seg : t.seg = s.nseg
  nseg : t.nseg = s.nseg
  packets : t.packets = s.packets ++ newPackets m (operationRecords s)

/-- With nothing left, the engine's turn is the completion step. -/
theorem Round.completes {s : State} {rest : List Agent} (h : Round 0 s) (hts : s.turns = .engine :: rest) :
    ∃ t, step s = .next t ∧ Completed 0 rest s t := by
  have hok := h.inv.run_ok h.run
  have hdone : s.edone = true := by
    cases hemit : s.edone with
    | true => rfl
    | false =>
      have hlt := hok.pushed_lt hemit
      have hleft := h.left
      omega
  have hreceived : s.received = [] := by
    obtain ⟨hne, -⟩ | ⟨-, hreceived, -⟩ := h.stream.emitted h.run hdone
    · exact absurd h.outq hne
    · exact hreceived
  refine ⟨complete (popTurn rest s), (step_of_turns_cons hts).trans
    (engineStep_of_drained (s := popTurn rest s) h.run hdone h.outq), ?_⟩
  exact ⟨rfl, rfl, h.outq, hreceived, rfl, hok.finished hdone, rfl, (List.append_nil _).symm⟩

/-- The sink takes OUTQ's only record, and its packet is whole when that record has LAST. -/
theorem sinkStep_single {s : State} {r : Sample} (hq : s.outq = [r]) :
    (sinkStep s).outq = [] ∧
      (sinkStep s).packets = s.packets ++ (if r.last = true then [s.received ++ [r]] else []) := by
  rw [sinkStep_cons hq, deliver]
  split
  · exact ⟨rfl, rfl⟩
  · exact ⟨rfl, (List.append_nil _).symm⟩

/-- What the sink's turn of a round leads to. -/
structure RoundTo (m : Nat) (s u : State) : Prop where
  round : Round m u
  nseg : u.nseg = s.nseg
  records : operationRecords u = operationRecords s
  packets : u.packets = s.packets ++ (if m = 0 then [operationRecords s] else [])

/-- One round: the engine pushes the next record and the sink takes it. -/
theorem Round.next {m : Nat} {s : State} {rest : List Agent} (h : Round (m + 1) s)
    (hts : s.turns = .engine :: .sink :: rest) :
    ∃ t u, step s = .next t ∧ step t = .next u ∧ u.turns = rest ∧ RoundTo m s u := by
  have hemit : s.edone = false := by
    cases hdone : s.edone with
    | false => rfl
    | true =>
      have hleft := h.left
      rw [pushed_of_edone hdone] at hleft
      omega
  have hroom : s.outq.length < s.par.outDepth := by
    obtain ⟨-, -, -, -, -, -, -, -, hdepth⟩ := h.inv.params
    rw [h.outq]
    exact hdepth
  obtain ⟨t, hstep, hto⟩ := step_engine_emitsTo h.inv hts h.run hemit hroom
  obtain ⟨-, heng, hqueue⟩ := hto.frame
  obtain ⟨hop, hpar, hreceived, hpackets⟩ := hto.operation
  have hinv : Inv t := stepKeepsInvariant s t h.inv hstep
  have hstream : StreamInv t := stepKeepsStream s t h.inv h.stream hstep
  have hrun : t.eng = .run := heng.trans h.run
  have hok : RunOk t := hinv.run_ok hrun
  have hrecs : operationRecords t = operationRecords s := hto.records
  have hpushed : pushed t = pushed s + 1 := hto.pushed (h.inv.quiet (quiet_popTurn hts)) h.run hemit
  obtain ⟨hnsamp, hnseg⟩ := nsamp_nseg_of_operation hop
  have hleft : pushed t + m = t.nseg.toNat * t.nsamp := by
    rw [hpushed, hnsamp, hnseg, Nat.add_assoc, Nat.add_comm 1 m]
    exact h.left
  have hq : t.outq = [currentSample (popTurn (.sink :: rest) s)] := by
    rw [hqueue, popTurn_outq, h.outq, List.nil_append]
  have hlast : (currentSample (popTurn (.sink :: rest) s)).last = true ↔ m = 0 := by
    obtain ⟨htrue, hfalse⟩ := hstream.head_last hrun hok hq
    refine ⟨fun hl => ?_, fun h0 => ?_⟩
    · obtain ⟨hdone, -, -⟩ := htrue hl
      rw [pushed_of_edone hdone] at hleft
      omega
    · by_contra hl
      cases hdone : t.edone with
      | true => exact hfalse (Bool.eq_false_of_not_eq_true hl) hdone rfl
      | false =>
        have hlt := hok.pushed_lt hdone
        omega
  have hstep2 : step t = .next (sinkStep (popTurn rest t)) := step_of_turns_cons hto.turns
  obtain ⟨hop2, hpar2, heng2, -, hpushed2, -⟩ := operation_sinkStep (popTurn rest t)
  obtain ⟨houtq2, hpackets2⟩ := sinkStep_single (s := popTurn rest t) hq
  obtain ⟨hnsamp2, hnseg2⟩ := nsamp_nseg_of_operation hop2
  refine ⟨t, _, hstep, hstep2, sinkStep_turns _, ?_⟩
  refine
    { round :=
        { inv := stepKeepsInvariant _ _ hinv hstep2
          stream := stepKeepsStream _ _ hinv hstream hstep2
          run := heng2.trans hrun
          outq := houtq2
          left := ?left }
      nseg := hnseg2.trans hnseg
      records := (operationRecords_of_operation hop2 (congrArg Config.Params.outW hpar2)).trans hrecs
      packets := ?packets }
  case left =>
    rw [hpushed2, hnsamp2, hnseg2]
    exact hleft
  case packets =>
    rw [hpackets2, popTurn_packets, hpackets]
    by_cases h0 : m = 0
    · obtain ⟨-, -, hwhole⟩ := (hstream.head_last hrun hok hq).1 (hlast.2 h0)
      rw [if_pos (hlast.2 h0), if_pos h0, ← hrecs, ← hwhole]
      rfl
    · rw [if_neg (fun hl => h0 (hlast.1 hl)), if_neg h0]
      rfl

theorem newPackets_succ (m : Nat) (recs : List Sample) :
    (if m = 0 then [recs] else []) ++ newPackets m recs = newPackets (m + 1) recs := by
  cases m <;> rfl

/-- The fair schedule runs the rounds that are left, and then the completion step. -/
theorem Round.runs_fairTurns {m : Nat} {s : State} {rest : List Agent} (h : Round m s) (hts : s.turns = fairTurns m ++ rest) :
    ∃ t, Sys2Proof.core.run (2 * m + 1) s = .next t ∧ Completed m rest s t := by
  induction m generalizing s with
  | zero =>
    obtain ⟨t, hstep, hcompleted⟩ := h.completes hts
    exact ⟨t, run_succ_of_step hstep 0, hcompleted⟩
  | succ m ih =>
    obtain ⟨v, u, hengine, hsink, hturns, hto⟩ := h.next hts
    obtain ⟨t, hrun, hdone⟩ := ih hto.round hturns
    refine ⟨t, (run_succ_of_step hengine _).trans ((run_succ_of_step hsink _).trans hrun), ?_⟩
    exact
      { hdone with
        seg := hdone.seg.trans hto.nseg
        nseg := hdone.nseg.trans hto.nseg
        packets := by
          rw [hdone.packets, hto.packets, hto.records, List.append_assoc, newPackets_succ] }

/-- Settles O60: an acceptance starts the rounds with every record left. -/
theorem fairScheduleCompletes : Obligations.FairScheduleCompletes := by
  intro s s1 i rest h hs hidle hexec hrun
  have hdepth : 1 ≤ s1.par.outDepth := by
    obtain ⟨-, -, -, -, -, -, -, -, hdepth⟩ := (accepted_of_exec h hs hidle hexec hrun).inv.params
    exact hdepth
  have hacc := (accepted_of_exec h hs hidle hexec hrun).rescheduled
    (fairTurns (s1.nseg.toNat * s1.nsamp) ++ rest) s1.program hdepth
  have hround : Round (s1.nseg.toNat * s1.nsamp)
      { s1 with turns := fairTurns (s1.nseg.toNat * s1.nsamp) ++ rest } :=
    { inv := hacc.inv, stream := hacc.stream, run := hacc.run, outq := hacc.outq
      left := by rw [hacc.pushed]; exact Nat.zero_add _ }
  obtain ⟨t, hsteps, hdone⟩ := hround.runs_fairTurns rfl
  have hpos : 0 < s1.nsamp := (hacc.inv.run_ok hacc.run).nsamp_pos
  have hnone : s1.nseg.toNat * s1.nsamp = 0 ↔ s1.nseg = 0 := by
    rw [Nat.mul_eq_zero, or_iff_left hpos.ne', ← BitVec.toNat_inj]
    rfl
  refine ⟨t, hsteps, hdone.eng, hdone.done, hdone.outq, hdone.received, hdone.turns, hdone.seg, hdone.nseg, ?_⟩
  rw [hdone.packets, newPackets]
  simp only [hnone]
  rfl

end Sys2Proof.Machine
end

section
/-! The assembler (R93): how the text of an operand is read, and the words the command lines stand for. -/

namespace Sys2Proof.Machine

open Sys2Proof

/-! ### Digits -/

theorem char_le_iff (c d : Char) : c ≤ d ↔ c.toNat ≤ d.toNat := Iff.rfl

theorem decDigit_eq_none {c : Char} (h : ¬('0' ≤ c ∧ c ≤ '9')) : decDigit c = none := by
  rw [char_le_iff, char_le_iff] at h
  exact if_neg h

theorem hexDigit_eq_none {c : Char}
    (h : ¬(('0' ≤ c ∧ c ≤ '9') ∨ ('a' ≤ c ∧ c ≤ 'f') ∨ ('A' ≤ c ∧ c ≤ 'F'))) :
    hexDigit c = none := by
  obtain ⟨hdec, hletter⟩ := not_or.1 h
  obtain ⟨hlower, hupper⟩ := not_or.1 hletter
  rw [char_le_iff, char_le_iff] at hlower hupper
  exact (if_neg hlower).trans ((if_neg hupper).trans (decDigit_eq_none hdec))

theorem decDigit_digitChar : ∀ d < 10, decDigit (Nat.digitChar d) = some d := by decide

theorem hexDigit_digitChar : ∀ d < 16, hexDigit (Nat.digitChar d) = some d := by decide

theorem hexDigit_digitChar_toUpper : ∀ d < 16, hexDigit (Nat.digitChar d).toUpper = some d := by decide

theorem digits_map {α : Type} {base : Nat} {digit : Char → Option Nat} {char : α → Char} {value : α → Nat}
    (ds : List α) (acc : Nat) (h : ∀ d ∈ ds, digit (char d) = some (value d)) :
    digits base digit acc (ds.map char) = some (ds.foldl (fun a d => base * a + value d) acc) := by
  induction ds generalizing acc with
  | nil => rfl
  | cons d ds ih =>
    obtain ⟨hd, hds⟩ := List.forall_mem_cons.1 h
    rw [List.map_cons, digits, hd, List.foldl_cons, Nat.mul_comm base acc]
    exact ih _ hds

theorem digits_eq_none {base : Nat} {digit : Char → Option Nat} {text : List Char} {c : Char} (hc : c ∈ text)
    (hdigit : digit c = none) (acc : Nat) : digits base digit acc text = none := by
  induction text generalizing acc with
  | nil => cases hc
  | cons d text ih =>
    rw [digits]
    cases hd : digit d with
    | none => rfl
    | some v =>
      cases hc with
      | head => cases hd.symm.trans hdigit
      | tail _ hmem => exact ih hmem _

/-! ### Operands -/

theorem parseOperand_decimal {text : List Char} (hne : text ≠ []) (h : ∀ rest, text ≠ '0' :: 'x' :: rest) :
    parseOperand text = digits 10 decDigit 0 text := by
  unfold parseOperand
  split
  · exact absurd rfl hne
  · next c cs => exact absurd rfl (h (c :: cs))
  · rfl

theorem parseOperand_hexadecimal {text : List Char} (hne : text ≠ []) :
    parseOperand ('0' :: 'x' :: text) = digits 16 hexDigit 0 text := by
  cases text with
  | nil => exact absurd rfl hne
  | cons c cs => rfl

theorem digitChar_ne_x : ∀ d < 10, Nat.digitChar d ≠ 'x' := by decide

/-- A line of decimal digits is not taken for a hexadecimal operand. -/
theorem decimal_ne_hexadecimal {ds : List Nat} (h : ∀ d ∈ ds, d < 10) (rest : List Char) :
    ds.map Nat.digitChar ≠ '0' :: 'x' :: rest := by
  intro heq
  have hx : 'x' ∈ ds.map Nat.digitChar := heq ▸ List.mem_cons_of_mem _ List.mem_cons_self
  obtain ⟨d, hd, hdx⟩ := List.mem_map.1 hx
  exact digitChar_ne_x d (h d hd) hdx

theorem asmOperand_of_le {text : List Char} {a : Nat} (h : parseOperand text = some a) (ha : a ≤ 65535) :
    asmOperand (some text) = .ok (BitVec.ofNat 16 a) := by
  rw [asmOperand, Option.bind_some, h]
  exact if_pos (Nat.lt_succ_of_le ha)

theorem asmOperand_of_gt {text : List Char} {a : Nat} (h : parseOperand text = some a) (ha : 65535 < a) :
    asmOperand (some text) = .error (.operandRange a) := by
  rw [asmOperand, Option.bind_some, h]
  exact if_neg (Nat.not_lt.2 ha)

theorem asmOperand_of_none {text : List Char} (h : parseOperand text = none) :
    asmOperand (some text) = .error .badOperand := by
  rw [asmOperand, Option.bind_some, h]

/-! ### Words -/

/-- The operand above the opcode is the word of R80's fields with DIR = 0. -/
theorem shifted_operand_or {a : Nat} (ha : a ≤ 65535) (op : BitVec 4) :
    commandWord op 0 (BitVec.ofNat 16 a) = (BitVec.ofNat 32 a <<< 16) ||| op.setWidth 32 := by
  rw [← shift_or_eq_commandWord, BitVec.setWidth_ofNat_of_le_of_lt (by decide) (by omega)]

/-- DIR is bit 4. -/
theorem commandWord_dir (op : BitVec 4) (arg : Half) : commandWord op 1 arg = commandWord op 0 arg ||| 0x10#32 := by
  have hbit : (0x10#32 : Word) = BitVec.twoPow 32 4 := rfl
  refine BitVec.eq_of_getLsbD_eq fun i _ => ?_
  simp only [hbit, commandWord, BitVec.getLsbD_append, BitVec.getLsbD_or, BitVec.getLsbD_twoPow]
  obtain hop | rfl | hhigh : i < 4 ∨ i = 4 ∨ 4 < i := Nat.lt_trichotomy i 4
  · simp [hop, hop.ne']
  · simp
  · have hdir : ¬ i - 4 < 1 := by omega
    simp [hdir, hhigh.ne, Nat.not_lt.2 hhigh.le]

theorem asmWith_of_le {mk : Half → Instr} {text : List Char} {a : Nat} (h : parseOperand text = some a)
    (ha : a ≤ 65535) :
    asmWith mk (some text) = .ok (encode (mk (BitVec.ofNat 16 a))) := by
  rw [asmWith, asmOperand_of_le h ha]

/-! ### Mnemonics -/

theorem assemble_synthUp (text : Option (List Char)) : assemble "SYNTH.UP" text = asmWith .synthUp text := by
  simp [assemble]

theorem assemble_synthDn (text : Option (List Char)) : assemble "SYNTH.DN" text = asmWith .synthDn text := by
  simp [assemble]

theorem assemble_grayf (text : Option (List Char)) : assemble "GRAYF" text = asmWith .grayf text := by
  simp [assemble]

theorem assemble_grayi (text : Option (List Char)) : assemble "GRAYI" text = asmWith .grayi text := by
  simp [assemble]

theorem assemble_with_operand {m : String} (h : m = "SYNTH.UP" ∨ m = "SYNTH.DN" ∨ m = "GRAYF" ∨ m = "GRAYI") :
    ∃ mk, ∀ text, assemble m text = asmWith mk text := by
  obtain rfl | rfl | rfl | rfl := h
  · exact ⟨_, assemble_synthUp⟩
  · exact ⟨_, assemble_synthDn⟩
  · exact ⟨_, assemble_grayf⟩
  · exact ⟨_, assemble_grayi⟩

theorem assemble_plain {m : String} (h : m = "NOP" ∨ m = "START" ∨ m = "MSGCLR") :
    ∃ i, ∀ text, assemble m text = asmPlain i text := by
  obtain rfl | rfl | rfl := h
  · exact ⟨.nop, fun text => by simp [assemble]⟩
  · exact ⟨.start, fun text => by simp [assemble]⟩
  · exact ⟨.msgclr, fun text => by simp [assemble]⟩

/-- Settles O5: the operand by its digits, the word by R80's fields, and the rest by the mnemonic. -/
theorem assemblerWritesTableWords : Obligations.AssemblerWritesTableWords := by
  refine ⟨by decide, fun text a h ha => ?words, fun m text a h ha hm => ?range,
    fun m text h1 h2 h3 h4 h5 h6 h7 => ?unknown, fun ds hne h => ?decimal, fun ds hne h => ?hexadecimal, ⟨rfl, rfl⟩,
    fun text hno ⟨c, hc, hbad⟩ => ?badDecimal,
    fun rest ⟨c, hc, hbad⟩ => ?badHexadecimal, fun m hm => ?badOperand, fun m text hm => ?tooMany⟩
  case words =>
    rw [assemble_synthUp, assemble_synthDn, assemble_grayf, assemble_grayi]
    simp only [asmWith_of_le h ha, encode, commandWord_dir, shifted_operand_or ha, BitVec.or_assoc]
    exact ⟨rfl, rfl, rfl, rfl⟩
  case range =>
    obtain ⟨mk, hmk⟩ := assemble_with_operand hm
    rw [hmk, asmWith, asmOperand_of_gt h ha]
  case unknown => simp only [assemble, h1, h2, h3, h4, h5, h6, h7, if_false]
  case decimal =>
    rw [parseOperand_decimal (by simpa using hne) (decimal_ne_hexadecimal h),
      digits_map ds 0 fun d hd => decDigit_digitChar d (h d hd)]
  case hexadecimal =>
    rw [parseOperand_hexadecimal (by simpa using hne)]
    refine digits_map ds 0 fun d hd => ?_
    split
    · exact hexDigit_digitChar_toUpper d.1 (h d hd)
    · exact hexDigit_digitChar d.1 (h d hd)
  case badDecimal =>
    rw [parseOperand_decimal (List.ne_nil_of_mem hc) hno]
    exact digits_eq_none hc (decDigit_eq_none hbad) 0
  case badHexadecimal =>
    rw [parseOperand_hexadecimal (List.ne_nil_of_mem hc)]
    exact digits_eq_none hc (hexDigit_eq_none hbad) 0
  case badOperand =>
    obtain ⟨mk, hmk⟩ := assemble_with_operand hm
    simp only [hmk, asmWith]
    exact ⟨rfl, fun text h => by rw [asmOperand_of_none h]⟩
  case tooMany =>
    obtain ⟨i, hi⟩ := assemble_plain hm
    exact hi _

end Sys2Proof.Machine
end

section
/-! The state that the spec leaves unspecified (R46, X6): `forget` keeps all that a step and the host read. First the
buffers: what `keepBelow` keeps, and that canonical buffers with the same cells are the same. -/

namespace Sys2Proof.Machine

variable {w : Nat}

theorem read_keepBelow (n : Nat) (m : Memory w) (a : Nat) :
    Memory.read (keepBelow n m) a = if a < n then Memory.read m a else Memory.unlisted w := by
  induction m with
  | nil => simp [keepBelow]
  | cons c m ih =>
    obtain ⟨b, v⟩ := c
    rw [keepBelow] at ih ⊢
    rw [List.filter_cons]
    by_cases hab : a = b
    · subst hab
      by_cases han : a < n
      · simp [han, Memory.read]
      · simp [han, ih]
    · by_cases hbn : b < n
      · simp [hbn, Memory.read, hab, ih]
      · simp [hbn, Memory.read, hab, ih]

theorem read_keepBelow_of_lt {n a : Nat} (h : a < n) (m : Memory w) : Memory.read (keepBelow n m) a = Memory.read m a := by
  rw [read_keepBelow, if_pos h]

theorem keepBelow_wf (n : Nat) {m : Memory w} (h : Memory.wf m) : Memory.wf (keepBelow n m) :=
  ⟨h.1.filter _, fun c hc => h.2 c (List.mem_of_mem_filter hc)⟩

theorem keepBelow_zero (m : Memory w) : keepBelow 0 m = [] := by simp [keepBelow]

/-- In a canonical buffer the first cell's address is the lowest one that holds something. -/
theorem memory_first_le {a b : Nat} {u v : BitVec w} {m m' : Memory w} (h : Memory.wf ((a, u) :: m))
    (h' : Memory.wf ((b, v) :: m')) (hread : ∀ i, Memory.read ((a, u) :: m) i = Memory.read ((b, v) :: m') i) :
    b ≤ a := by
  obtain ⟨-, hu, -⟩ := memory_wf_cons.1 h
  obtain ⟨habove, -, -⟩ := memory_wf_cons.1 h'
  by_contra hlt
  have hunlisted : Memory.read ((b, v) :: m') a = Memory.unlisted w := by
    refine memory_read_of_above fun c hc => ?_
    obtain rfl | hc := List.mem_cons.1 hc
    · exact Nat.lt_of_not_le hlt
    · exact (Nat.lt_of_not_le hlt).trans (habove c hc)
  exact hu ((if_pos rfl).symm.trans ((hread a).trans hunlisted))

/-- The canonical form: a buffer is fixed by what its cells read. -/
theorem memory_ext {m m' : Memory w} (h : Memory.wf m) (h' : Memory.wf m')
    (hread : ∀ a, Memory.read m a = Memory.read m' a) : m = m' := by
  induction m generalizing m' with
  | nil =>
    cases m' with
    | nil => rfl
    | cons c m' =>
      obtain ⟨-, hc, -⟩ := memory_wf_cons.1 h'
      exact absurd ((if_pos rfl).symm.trans (hread c.1).symm) hc
  | cons c m ih =>
    obtain ⟨a, u⟩ := c
    cases m' with
    | nil =>
      obtain ⟨-, hc, -⟩ := memory_wf_cons.1 h
      exact absurd ((if_pos rfl).symm.trans (hread a)) hc
    | cons d m' =>
      obtain ⟨b, v⟩ := d
      obtain rfl : a = b :=
        Nat.le_antisymm (memory_first_le h' h fun i => (hread i).symm) (memory_first_le h h' hread)
      obtain rfl : u = v := by simpa [Memory.read] using hread a
      obtain ⟨habove, -, hm⟩ := memory_wf_cons.1 h
      obtain ⟨habove', -, hm'⟩ := memory_wf_cons.1 h'
      rw [ih hm hm' fun i => ?_]
      by_cases hi : i = a
      · subst hi
        rw [memory_read_of_above habove, memory_read_of_above habove']
      · simpa [Memory.read, hi] using hread i

/-- Appending at the first forgotten address keeps the cell, and forgets the others. -/
theorem keepBelow_write (n : Nat) (v : BitVec w) {m : Memory w} (h : Memory.wf m) :
    keepBelow (n + 1) (Memory.write m n v) = Memory.write (keepBelow n m) n v := by
  refine memory_ext (keepBelow_wf _ (memory_write_wf n v h)) (memory_write_wf n v (keepBelow_wf n h)) fun a => ?_
  rw [read_keepBelow, memory_read_write n v a h, memory_read_write n v a (keepBelow_wf n h), read_keepBelow]
  obtain hlt | rfl | hgt := Nat.lt_trichotomy a n
  · simp [hlt, hlt.ne, hlt.trans (Nat.lt_succ_self n)]
  · simp
  · simp [hgt.ne', Nat.not_lt.2 hgt.le, Nat.not_lt.2 (Nat.succ_le_of_lt hgt)]

/-- Once a list is written over the first cells, they hold nothing of the old buffer. -/
theorem keepBelow_writeAll (vs : List (BitVec w)) {m : Memory w} (h : Memory.wf m) :
    keepBelow vs.length (Memory.writeAll m 0 vs) = Memory.writeAll [] 0 vs := by
  have hnil : Memory.wf ([] : Memory w) := ⟨List.Pairwise.nil, nofun⟩
  refine memory_ext (keepBelow_wf _ (memory_writeAll_wf vs 0 h)) (memory_writeAll_wf vs 0 hnil) fun a => ?_
  rw [read_keepBelow, memory_read_writeAll vs 0 a h, memory_read_writeAll vs 0 a hnil]
  by_cases ha : a < vs.length <;> simp [ha]

end Sys2Proof.Machine
end

section
/-! What `forget` keeps: the registers, the checks of a command, the slots and the record of a running operation. -/

namespace Sys2Proof.Machine

/-- What `forget` keeps is the same in two states that it does not tell apart; a field it keeps needs no proof of that. -/
theorem eq_of_forget {α : Type} (f : State → α) {s t : State} (h : forget s = forget t)
    (hf : ∀ u, f (forget u) = f u := by exact fun _ => rfl) : f s = f t := by
  rw [← hf s, h, hf t]

/-! ### The port -/

theorem symData_forget (s : State) : symData (forget s) = symData s := by
  have hsymidx : (forget s).symidx = s.symidx := rfl
  have hnsym : (forget s).nsym = s.nsym := rfl
  have hsymbuf : (forget s).symbuf = keepBelow s.nsym.toNat s.symbuf := rfl
  rw [symData, symData, hsymidx, hnsym, hsymbuf]
  split
  · next h => rw [read_keepBelow_of_lt h]
  · rfl

theorem readReg_forget (s : State) (r : Reg) : readReg (forget s) r = readReg s r := by
  cases r with
  | symdata => exact congrArg (BitVec.setWidth 32) (symData_forget s)
  | _ => rfl

theorem memRead_forget (a : Word) (s : State) : memRead (forget s) a = memRead s a := by
  have hreg : regAt (forget s).par a = regAt s.par a := rfl
  rw [memRead, memRead, hreg]
  cases regAt s.par a with
  | none => rfl
  | some r => exact readReg_forget s r

/-! ### The checks -/

theorem message_forget (s : State) : (forget s).message = s.message :=
  List.map_congr_left fun _ ha => read_keepBelow_of_lt (List.mem_range.1 ha) _

theorem symbols_forget (s : State) : (forget s).symbols = s.symbols := by
  rw [State.symbols, message_forget]
  rfl

theorem symbolError_forget (s : State) : symbolError (forget s) = symbolError s := by
  rw [symbolError, symbols_forget]
  rfl

theorem startError_forget (s : State) : startError (forget s) = startError s := by
  rw [startError, symbolError_forget]
  rfl

theorem synthError_forget (arg : Half) (s : State) : synthError arg (forget s) = synthError arg s := rfl

theorem startSegments_forget (s : State) : startSegments (forget s) = startSegments s := by
  rw [startSegments, symbols_forget]
  rfl

/-! ### A running operation -/

section
variable {s : State} (hrun : s.eng = .run)
include hrun

theorem forget_opk : (forget s).opk = s.opk := by simp [forget, hrun]

theorem forget_edone : (forget s).edone = s.edone := by simp [forget, hrun]

theorem forget_arg (hopk : s.opk = .one) : (forget s).asym = s.asym ∧ (forget s).adir = s.adir := by
  simp [forget, hrun, hopk]

theorem forget_k (hemit : s.edone = false) : (forget s).k = s.k := by simp [forget, hrun, hemit]

end

/-- A packet's slots: the mask, then SYMBUF below NSYM. -/
theorem slotOf_pkt_congr {s t : State} {j : Nat} (hs : s.opk = .pkt) (ht : t.opk = .pkt) (hplen : s.plen = t.plen)
    (hpmask : s.pmask = t.pmask) (hnseg : s.nseg = t.nseg)
    (hread : s.plen.toNat ≤ j → j < s.nseg.toNat →
      Memory.read s.symbuf (j - s.plen.toNat) = Memory.read t.symbuf (j - s.plen.toNat)) :
    slotOf s j = slotOf t j := by
  simp only [slotOf, hs, ht, State.slotWord, ← hplen, ← hpmask, ← hnseg]
  split
  · rfl
  · next hmask =>
    split
    · next hj => rw [hread (Nat.not_lt.1 hmask) hj]
    · rfl

theorem slotOf_forget {s : State} (hrun : s.eng = .run) (hok : RunOk s) (j : Nat) : slotOf (forget s) j = slotOf s j := by
  cases hopk : s.opk with
  | one =>
    obtain ⟨hasym, hadir⟩ := forget_arg hrun hopk
    simp only [slotOf, forget_opk hrun, hopk, hasym, hadir]
  | pkt =>
    have hnseg : s.nseg.toNat = s.plen.toNat + s.nsym.toNat := by simpa [nsegOf, hopk] using hok.nseg_eq
    refine slotOf_pkt_congr ((forget_opk hrun).trans hopk) hopk rfl rfl rfl fun hle hlt => ?_
    have hplen : (forget s).plen = s.plen := rfl
    have hnseg' : (forget s).nseg = s.nseg := rfl
    rw [hplen] at hle ⊢
    rw [hnseg'] at hlt
    exact read_keepBelow_of_lt (by omega) _

end Sys2Proof.Machine
end

section
/-! What `forget` leaves of each operation's result. -/

namespace Sys2Proof.Machine

/-- `o` with what no observation depends on taken from its state. -/
def forgetNext : Host.Outcome State Fault Refusal → Host.Outcome State Fault Refusal
  | .next s => .next (forget s)
  | .fault r => .fault r
  | .refused r => .refused r

theorem forgetNext_next {s t : State} (h : forget s = forget t) : forgetNext (.next s) = forgetNext (.next t) :=
  congrArg Host.Outcome.next h

/-! ### Flags, registers and the agents outside -/

theorem forget_reject (f : RejFlag) (s : State) : forget (reject f s) = reject f (forget s) := by
  cases f <;> rfl

theorem forget_noteRead (v : Word) (s : State) : forget (noteRead v s) = noteRead v (forget s) := rfl

theorem forget_resetStep (s : State) : forget (resetStep s) = resetStep (forget s) := rfl

theorem forget_sinkStep (s : State) : forget (sinkStep s) = sinkStep (forget s) := by
  cases hq : s.outq with
  | nil => rw [sinkStep_nil hq, sinkStep_nil (s := forget s) hq]
  | cons r rest =>
    rw [sinkStep_cons hq, sinkStep_cons (s := forget s) hq, deliver, deliver]
    split <;> rfl

theorem forget_lockedWrite (s t : State) : forget (lockedWrite s t) = lockedWrite (forget s) (forget t) := by
  obtain ⟨hrun, hs⟩ | ⟨hidle, hs⟩ := lockedWrite_cases s t
  · rw [hs, forget_reject]
    exact (if_pos hrun).symm
  · rw [hs]
    refine (if_neg ?_).symm
    exact fun hrun => nomatch hidle.symm.trans hrun

theorem forget_appendByte (b : Byte) {s : State} (h : Inv s) (hroom : s.msglen.toNat ≠ s.par.msgMax) :
    forget (appendByte b s) = appendByte b (forget s) := by
  obtain ⟨-, -, -, -, -, hmsgMax, -⟩ := h.params
  have hlen : (s.msglen + 1).toNat = s.msglen.toNat + 1 :=
    half_toNat_add_one_of_lt (Nat.lt_of_le_of_ne h.msglen_le hroom) hmsgMax
  have hbuf : keepBelow (s.msglen + 1).toNat (Memory.write s.msgbuf s.msglen.toNat b) =
      Memory.write (keepBelow s.msglen.toNat s.msgbuf) s.msglen.toNat b := by
    rw [hlen, keepBelow_write _ b h.msgbuf_wf]
  calc forget (appendByte b s)
      _ = { forget s with
            msglen := s.msglen + 1
            msgbuf := keepBelow (s.msglen + 1).toNat (Memory.write s.msgbuf s.msglen.toNat b) } := rfl
      _ = appendByte b (forget s) := by rw [hbuf]; rfl

theorem forget_pushMessage (v : Word) {s : State} (h : Inv s) : forget (pushMessage v s) = pushMessage v (forget s) := by
  obtain ⟨hrun, hs⟩ | ⟨hidle, hfull, hs⟩ | ⟨hidle, hroom, hs⟩ := pushMessage_cases v s
  · rw [hs, forget_reject]
    exact (if_pos hrun).symm
  · have hlock : (forget s).eng ≠ .run := fun hrun => nomatch hidle.symm.trans hrun
    rw [hs, forget_reject]
    exact ((if_neg hlock).trans (if_pos hfull)).symm
  · have hlock : (forget s).eng ≠ .run := fun hrun => nomatch hidle.symm.trans hrun
    rw [hs, forget_appendByte _ h hroom]
    exact ((if_neg hlock).trans (if_neg hroom)).symm

theorem forget_writeReg (r : Reg) (v : Word) {s : State} (h : Inv s) :
    forget (writeReg r v s) = writeReg r v (forget s) := by
  cases r with
  | fs | bw | f0 | mode | plen | pmask => exact forget_lockedWrite s _
  | msgdata => exact forget_pushMessage v h
  | _ => rfl

/-! ### The engine -/

/-- `s` with the sample position of an operation that emits no more, and no free values counted. -/
def dropPosition (s : State) : State := { s with k := 0, csym := 0, cdir := .up, acc := 0, phi := 0, free := 0 }

/-- `s` with the engine fields of an operation that is complete. -/
def dropOperation (s : State) : State := { dropPosition s with opk := .pkt, edone := false, asym := 0, adir := .up }

theorem forget_complete (s : State) : forget (complete s) = dropOperation (complete (forget s)) := rfl

section
variable {s : State} (hrun : s.eng = .run)
include hrun

theorem forget_setEdone : forget (setEdone s) = dropPosition (setEdone (forget s)) := by
  cases s; cases hrun; rfl

variable (hemit : s.edone = false)
include hemit

theorem forget_advance : forget (advance s) = advance (forget s) := by
  cases s; cases hrun; cases hemit; rfl

theorem forget_countSegment : forget (countSegment s) = countSegment (forget s) := by
  cases s; cases hrun; cases hemit; rfl

theorem forget_setSegment (sym : Half) (dir : Dir) : forget (setSegment sym dir s) = setSegment sym dir (forget s) := by
  cases s; cases hrun; cases hemit; rfl

end

theorem emitEnabled_forget (s : State) : emitEnabled (forget s) = emitEnabled s := by
  cases heng : s.eng with
  | idle => simp [emitEnabled, forget, heng, show (Eng.idle == Eng.run) = false from rfl]
  | run => simp [emitEnabled, forget, heng]

theorem completeEnabled_forget (s : State) : completeEnabled (forget s) = completeEnabled s := by
  cases heng : s.eng with
  | idle => simp [completeEnabled, forget, heng, show (Eng.idle == Eng.run) = false from rfl]
  | run => simp [completeEnabled, forget, heng]

/-! ### Acceptance -/

/-- What `forget` leaves of `latchStart`, given the symbols: SYMBUF holds them alone. -/
def latchAlone (syms : List Nat) (s : State) : State :=
  { s with
    symbuf := Memory.writeAll [] 0 (syms.map (BitVec.ofNat 16)), nsym := BitVec.ofNat 16 syms.length
    asym := 0, adir := .up }

/-- The symbols latched are below NSYM, and nothing else is. -/
theorem keepBelow_latchStart {s : State} (h : Inv s) (hok : ConfigOk s) :
    keepBelow (BitVec.ofNat 16 s.symbols.length).toNat (Memory.writeAll s.symbuf 0 (s.symbols.map (BitVec.ofNat 16))) =
      Memory.writeAll [] 0 (s.symbols.map (BitVec.ofNat 16)) := by
  obtain ⟨hnsym, -⟩ := startSegments_toNat h.params h.msglen_le hok.sf_low
  have hlength : (BitVec.ofNat 16 s.symbols.length).toNat = (s.symbols.map (BitVec.ofNat 16)).length :=
    hnsym.trans (List.length_map _).symm
  rw [hlength, keepBelow_writeAll _ h.symbuf_wf]

theorem forget_start_segment {s : State} (h : Inv s) (hok : ConfigOk s) (sym : Half) (dir : Dir) :
    forget (setSegment sym dir (armed .pkt (startSegments s) (latchStart s))) =
      setSegment sym dir (armed .pkt (startSegments s) (latchAlone s.symbols (forget s))) := by
  simp only [latchAlone, ← keepBelow_latchStart h hok]
  rfl

theorem forget_start_empty {s : State} (h : Inv s) (hok : ConfigOk s) :
    forget (armedEmpty .pkt (latchStart s)) = dropPosition (armedEmpty .pkt (latchAlone s.symbols (forget s))) := by
  simp only [latchAlone, ← keepBelow_latchStart h hok]
  rfl

theorem forget_synth_segment (s : State) (arg : Half) (dir : Dir) :
    forget (setSegment arg dir (armed .one 1 (latchArg arg dir s))) =
      setSegment arg dir (armed .one 1 (latchArg arg dir (forget s))) := rfl

end Sys2Proof.Machine
end

section
/-! Steps of states that `forget` does not tell apart. -/

namespace Sys2Proof.Machine

/-- Two states of the invariant that differ only in what the spec leaves unspecified. -/
structure Alike (s t : State) : Prop where
  left : Inv s
  right : Inv t
  forget_eq : forget s = forget t

/-- A function of the state that `forget` keeps. -/
theorem Alike.same {s t : State} (h : Alike s t) {α : Type} (f : State → α)
    (hf : ∀ u, f (forget u) = f u := by exact fun _ => rfl) : f s = f t := eq_of_forget f h.forget_eq hf

section
variable {s t : State}

theorem Alike.popTurn (h : Alike s t) {a : Agent} {ts : List Agent} (hts : s.turns = a :: ts) :
    Alike (popTurn ts s) (popTurn ts t) where
  left := h.left.quiet (quiet_popTurn hts)
  right := h.right.quiet (quiet_popTurn ((h.same State.turns).symm.trans hts))
  forget_eq := congrArg (Machine.popTurn ts) h.forget_eq

theorem Alike.popOp (h : Alike s t) (ps : List HostOp) : Alike (popOp ps s) (popOp ps t) where
  left := h.left.quiet (quiet_popOp ps s)
  right := h.right.quiet (quiet_popOp ps t)
  forget_eq := congrArg (Machine.popOp ps) h.forget_eq

/-! ### The commands -/

theorem reject_alike (h : Alike s t) (f : RejFlag) : forget (reject f s) = forget (reject f t) := by
  rw [forget_reject, forget_reject, h.forget_eq]

theorem result_alike (h : Alike s t) (r : Half) : forget { s with result := r } = forget { t with result := r } :=
  congrArg (fun u : State => { u with result := r }) h.forget_eq

theorem raisedAs_alike (h : Alike s t) (code : BitVec 8) (idx : BitVec 17) (val : Word) :
    forget (raisedAs code idx val s) = forget (raisedAs code idx val t) :=
  congrArg (raisedAs code idx val) h.forget_eq

/-- Slot(0) of an accepted START is in the mask or the first symbol latched, whatever SYMBUF held before. -/
theorem slotOf_start_alike (h : Alike s t) (hok : ConfigOk s) :
    slotOf (armed .pkt (startSegments s) (latchStart s)) 0 = slotOf (armed .pkt (startSegments t) (latchStart t)) 0 := by
  have hsyms : s.symbols = t.symbols := h.same State.symbols symbols_forget
  obtain ⟨-, hnseg⟩ := startSegments_toNat h.left.params h.left.msglen_le hok.sf_low
  refine slotOf_pkt_congr rfl rfl (h.same State.plen)
    (h.same State.pmask) (h.same startSegments startSegments_forget) fun hle hlt => ?_
  have hfirst : 0 < s.symbols.length := by
    have hplen : s.plen.toNat ≤ 0 := hle
    have hpos : 0 < (startSegments s).toNat := hlt
    omega
  have hread : Memory.read (latchStart s).symbuf 0 = Memory.read (latchStart t).symbuf 0 := by
    rw [latchStart_symbuf_read h.left.symbuf_wf, latchStart_symbuf_read h.right.symbuf_wf, ← hsyms, if_pos hfirst,
      if_pos hfirst]
  rw [Nat.zero_sub]
  exact hread

theorem accept_of_segments {opk : OpKind} {nseg : BitVec 17} (hnseg : nseg ≠ 0) (s : State) :
    accept opk nseg s = loadSeg 0 (armed opk nseg s) := by
  rw [accept, engineInit, armEngine_nseg, if_neg hnseg]
  rfl

theorem accept_start_alike (h : Alike s t) (hs : ConfigOk s) (ht : ConfigOk t) :
    forgetNext (accept .pkt (startSegments s) (latchStart s)) =
      forgetNext (accept .pkt (startSegments t) (latchStart t)) := by
  have hsyms : s.symbols = t.symbols := h.same State.symbols symbols_forget
  have hnseg : startSegments s = startSegments t := h.same startSegments startSegments_forget
  by_cases hzero : startSegments s = 0
  · rw [← hnseg, hzero, accept_empty, accept_empty]
    refine forgetNext_next ?_
    rw [forget_start_empty h.left hs, forget_start_empty h.right ht, hsyms, h.forget_eq]
  · rw [accept_of_segments hzero, accept_of_segments (hnseg ▸ hzero), loadSeg, loadSeg, slotOf_start_alike h hs]
    cases slotOf (armed .pkt (startSegments t) (latchStart t)) 0 with
    | none => rfl
    | some p =>
      refine forgetNext_next ?_
      rw [forget_start_segment h.left hs, forget_start_segment h.right ht, hsyms, hnseg, h.forget_eq]

theorem exec_start_alike (h : Alike s t) (hs : s.eng = .idle) (ht : t.eng = .idle) :
    forgetNext (exec .start s) = forgetNext (exec .start t) := by
  have herror : startError s = startError t := h.same startError startError_forget
  cases hc : startError s with
  | some c =>
    have hs' : exec .start s = _ := execStart_of_startError hs hc
    have ht' : exec .start t = _ := execStart_of_startError ht (herror.symm.trans hc)
    rw [hs', ht']
    exact forgetNext_next (raisedAs_alike h _ _ _)
  | none =>
    obtain ⟨hokS, hmaskS, hvaluesS, hsymbolsS⟩ := (startError_none_iff s).1 hc
    obtain ⟨hokT, hmaskT, hvaluesT, hsymbolsT⟩ := (startError_none_iff t).1 (herror.symm.trans hc)
    show forgetNext (execStart s) = forgetNext (execStart t)
    rw [execStart_accept hs hokS hmaskS hvaluesS hsymbolsS, execStart_accept ht hokT hmaskT hvaluesT hsymbolsT]
    exact accept_start_alike h hokS hokT

theorem synth_alike (h : Alike s t) (hs : s.eng = .idle) (ht : t.eng = .idle) (dir : Dir) (arg : Half) :
    forgetNext (synth dir arg s) = forgetNext (synth dir arg t) := by
  have herror : synthError arg s = synthError arg t := h.same (synthError arg) (synthError_forget arg)
  cases hc : synthError arg s with
  | some c =>
    rw [synth_of_synthError hs hc, synth_of_synthError ht (herror.symm.trans hc)]
    exact forgetNext_next (raisedAs_alike h _ _ _)
  | none =>
    obtain ⟨hokS, hargS⟩ := (synthError_none_iff arg s).1 hc
    obtain ⟨hokT, hargT⟩ := (synthError_none_iff arg t).1 (herror.symm.trans hc)
    rw [synth_accept dir hs hokS hargS, synth_accept dir ht hokT hargT]
    refine forgetNext_next ?_
    rw [forget_synth_segment, forget_synth_segment, h.forget_eq]

theorem forget_clear (s : State) : forget { s with msglen := 0 } = { forget s with msglen := 0, msgbuf := [] } := by
  have hbuf : keepBelow (0 : Half).toNat s.msgbuf = [] := keepBelow_zero s.msgbuf
  rw [← hbuf]
  rfl

theorem exec_alike (h : Alike s t) (i : Instr) : forgetNext (exec i s) = forgetNext (exec i t) := by
  have heng : s.eng = t.eng := h.same State.eng
  have hlocked : ∀ j n, j ∈ lockedCommands n → s.eng = .run → forgetNext (exec j s) = forgetNext (exec j t) :=
    fun j n hj hrun => by
      rw [exec_of_run hrun n j hj, exec_of_run (heng.symm.trans hrun) n j hj]
      exact forgetNext_next (reject_alike h .cmdrej)
  cases i with
  | nop => exact forgetNext_next h.forget_eq
  | grayf arg => exact forgetNext_next (result_alike h _)
  | grayi arg => exact forgetNext_next (result_alike h _)
  | reserved67 | reserved8F => exact forgetNext_next (reject_alike h .cmdrej)
  | start =>
    cases hs : s.eng with
    | run => exact hlocked .start 0 (by simp [lockedCommands]) hs
    | idle => exact exec_start_alike h hs (heng.symm.trans hs)
  | synthUp arg =>
    cases hs : s.eng with
    | run => exact hlocked (.synthUp arg) arg (by simp [lockedCommands]) hs
    | idle => exact synth_alike h hs (heng.symm.trans hs) .up arg
  | synthDn arg =>
    cases hs : s.eng with
    | run => exact hlocked (.synthDn arg) arg (by simp [lockedCommands]) hs
    | idle => exact synth_alike h hs (heng.symm.trans hs) .down arg
  | msgclr =>
    cases hs : s.eng with
    | run => exact hlocked .msgclr 0 (by simp [lockedCommands]) hs
    | idle =>
      rw [exec_msgclr_of_idle hs, exec_msgclr_of_idle (heng.symm.trans hs)]
      refine forgetNext_next ?_
      rw [forget_clear, forget_clear, h.forget_eq]

/-! ### The host's turn -/

theorem memWrite_alike (h : Alike s t) (a v : Word) : forgetNext (memWrite a v s) = forgetNext (memWrite a v t) := by
  have hreg : regAt s.par a = regAt t.par a := h.same fun u => regAt u.par a
  unfold memWrite
  rw [← hreg]
  split
  · exact exec_alike h _
  · next r _ _ =>
    refine forgetNext_next ?_
    rw [forget_writeReg r v h.left, forget_writeReg r v h.right, h.forget_eq]
  · exact forgetNext_next h.forget_eq

theorem noteRead_alike (h : Alike s t) (v : Word) : forget (noteRead v s) = forget (noteRead v t) := by
  rw [forget_noteRead, forget_noteRead, h.forget_eq]

theorem hostStep_alike (h : Alike s t) : forgetNext (hostStep s) = forgetNext (hostStep t) := by
  have hprogram : s.program = t.program := h.same State.program
  have hread : ∀ a, memRead s a = memRead t a := fun a => h.same (memRead · a) (memRead_forget a)
  unfold hostStep
  rw [← hprogram]
  split
  · exact forgetNext_next h.forget_eq
  · next a size rest _ =>
    rw [← hread a]
    split
    · exact forgetNext_next (noteRead_alike (h.popOp rest) _)
    · rfl
  · next a size v rest _ =>
    split
    · exact memWrite_alike (h.popOp rest) a v
    · rfl
  · next a mask value rest _ =>
    rw [← hread a]
    split
    · exact forgetNext_next (noteRead_alike (h.popOp rest) _)
    · exact forgetNext_next (noteRead_alike h _)

/-! ### The engine's turn -/

theorem segmentBoundary_alike (hs : s.eng = .run) (ht : t.eng = .run) (hemitS : s.edone = false)
    (hemitT : t.edone = false) (hforget : forget s = forget t) (hslot : ∀ j, slotOf s j = slotOf t j) :
    forgetNext (segmentBoundary s) = forgetNext (segmentBoundary t) := by
  have hseg : s.seg = t.seg := eq_of_forget State.seg hforget
  have hnseg : s.nseg = t.nseg := eq_of_forget State.nseg hforget
  have hcount : forget (countSegment s) = forget (countSegment t) := by
    rw [forget_countSegment hs hemitS, forget_countSegment ht hemitT, hforget]
  rw [segmentBoundary, segmentBoundary, ← hseg, ← hnseg]
  by_cases hlast : s.seg.toNat + 1 = s.nseg.toNat
  · rw [if_pos hlast, if_pos hlast]
    refine forgetNext_next ?_
    rw [forget_setEdone (s := countSegment s) hs, forget_setEdone (s := countSegment t) ht, hcount]
  · have hcounted : slotOf (countSegment s) (s.seg.toNat + 1) = slotOf (countSegment t) (s.seg.toNat + 1) := hslot _
    rw [if_neg hlast, if_neg hlast, loadSeg, loadSeg, hcounted]
    cases slotOf (countSegment t) (s.seg.toNat + 1) with
    | none => rfl
    | some p =>
      refine forgetNext_next ?_
      rw [forget_setSegment (s := countSegment s) hs hemitS, forget_setSegment (s := countSegment t) ht hemitT, hcount]

theorem emit_alike (h : Alike s t) (hrun : s.eng = .run) (hemit : s.edone = false) :
    forgetNext (emit s) = forgetNext (emit t) := by
  have hrunT : t.eng = .run := (h.same State.eng).symm.trans hrun
  have hemitT : t.edone = false := by
    rw [← forget_edone hrunT, ← h.forget_eq, forget_edone hrun, hemit]
  have hk : s.k = t.k := by rw [← forget_k hrun hemit, h.forget_eq, forget_k hrunT hemitT]
  have hadvance : forget (advance s) = forget (advance t) := by
    rw [forget_advance hrun hemit, forget_advance hrunT hemitT, h.forget_eq]
  have hslot : ∀ j, slotOf s j = slotOf t j := fun j => by
    rw [← slotOf_forget hrun (h.left.run_ok hrun), h.forget_eq, slotOf_forget hrunT (h.right.run_ok hrunT)]
  rw [emit, emit, ← h.same State.fs, ← hk, ← h.same State.nsamp]
  split
  · rfl
  split
  · exact segmentBoundary_alike hrun hrunT hemit hemitT hadvance hslot
  · exact forgetNext_next hadvance

theorem engineStep_alike (h : Alike s t) : forgetNext (engineStep s) = forgetNext (engineStep t) := by
  unfold engineStep
  rw [← h.same emitEnabled emitEnabled_forget, ← h.same completeEnabled completeEnabled_forget]
  split
  · next hen =>
    obtain ⟨⟨hrun, hemit⟩, -⟩ : (s.eng = .run ∧ s.edone = false) ∧ s.outq.length < s.par.outDepth := by
      simpa [emitEnabled] using hen
    exact emit_alike h hrun hemit
  split
  · refine forgetNext_next ?_
    rw [forget_complete, forget_complete, h.forget_eq]
  · exact forgetNext_next h.forget_eq

/-! ### The step -/

theorem agentStep_alike (h : Alike s t) (a : Agent) : forgetNext (agentStep a s) = forgetNext (agentStep a t) := by
  cases a with
  | host => exact hostStep_alike h
  | engine => exact engineStep_alike h
  | sink => exact forgetNext_next (by rw [forget_sinkStep, forget_sinkStep, h.forget_eq])
  | reset => exact forgetNext_next (by rw [forget_resetStep, forget_resetStep, h.forget_eq])

theorem step_alike (h : Alike s t) : forgetNext (step s) = forgetNext (step t) := by
  have hturns : s.turns = t.turns := h.same State.turns
  obtain ⟨hs, hstep⟩ | ⟨a, ts, hs, hstep⟩ := step_cases s
  · rw [hstep, (show step t = .next t by simp [step, takeTurn, ← hturns, hs])]
    exact forgetNext_next h.forget_eq
  · rw [hstep, step_of_turns_cons (hturns.symm.trans hs)]
    exact agentStep_alike (h.popTurn hs) a

theorem next_of_forgetNext {o : Host.Outcome State Fault Refusal} (h : forgetNext o = .next (forget s)) :
    ∃ u, o = .next u ∧ forget u = forget s := by
  cases o with
  | next u => exact ⟨u, rfl, Host.Outcome.next.inj h⟩
  | fault r => cases h
  | refused r => cases h

end

/-- Settles O57: no step reads what `forget` drops, and what is observed is what `forget` keeps. -/
theorem unspecifiedStateIsUnobservable : Obligations.UnspecifiedStateIsUnobservable := by
  intro s t s' hs ht hforget hstep
  have hnext : forgetNext (step t) = .next (forget s') := by
    rw [← step_alike ⟨hs, ht, hforget⟩, hstep]
    rfl
  obtain ⟨t', hstep', hforget'⟩ := next_of_forgetNext hnext
  have hsame : forget s' = forget t' := hforget'.symm
  exact ⟨t', hstep', hsame, eq_of_forget State.reads hsame, eq_of_forget State.packets hsame,
    eq_of_forget State.received hsame, eq_of_forget State.outq hsame, eq_of_forget State.irq hsame,
    fun a => eq_of_forget (memRead · a) hsame (memRead_forget a)⟩

end Sys2Proof.Machine
end
